-- ==== Sys2Proof/Word.lean ====
section
/-! DEFINITION. The words the EK-4120 works with: bytes, addresses, sequence numbers, tags and indices
(spec/00_scope.md, Conventions). -/

namespace Sys2Proof

/-- One byte. -/
abbrev Byte := BitVec 8

/-- A 40-bit byte address (00_scope, Addresses and pages). -/
abbrev Addr := BitVec 40

/-- A 32-bit sequence number; sums and differences wrap modulo 2^32 (00_scope, Sequence numbers). -/
abbrev Seq := BitVec 32

/-- A 32-bit saturating counter (00_scope, Counters; R17, R179). -/
abbrev Counter := BitVec 32

/-- An upstream tag, 0 to 31 (R18). -/
abbrev Tag := Fin 32

/-- An internal tag of the downstream port, 0 to 47 (R24). -/
abbrev ITag := Fin 48

/-- The index of a region table entry, 0 to 15 (R1). -/
abbrev RegionIx := Fin 16

end Sys2Proof
end

