-- ==== Sys2Proof/Config.lean ====
section
/-! DEFINITION. What the part fixes once for all: its limits and capacities, and the one value the spec
leaves open (a free value with no body). -/

namespace Sys2Proof.Config

/-- Entries of the intake queue (R20). -/
abbrev intakeDepth : Nat := 8
/-- Outstanding transactions charged to UP (R24). -/
abbrev upLimit : Nat := 40
/-- Outstanding transactions charged to APL (R24). -/
abbrev aplLimit : Nat := 4
/-- Outstanding transactions charged to SWP (R24). -/
abbrev swpLimit : Nat := 4
/-- Bytes of a page (00_scope). -/
abbrev pageBytes : Nat := 4096
/-- Number of pages, 2^28 (00_scope). -/
abbrev pageCount : Nat := 2 ^ 28
/-- Longest transaction and longest record, in bytes (R18, R38). -/
abbrev maxLength : Nat := 256
/-- Journal record limit (R41). -/
abbrev journalRecords : Nat := 2048
/-- Journal data limit in bytes (R41). -/
abbrev journalBytes : Nat := 131072
/-- Apply queue record limit (R142). -/
abbrev applyRecords : Nat := 512
/-- Apply queue data limit in bytes (R142). -/
abbrev applyBytes : Nat := 65536
/-- Bytes of a sweep chunk (R83). -/
abbrev chunkBytes : Nat := 256
/-- Most records of a DATA frame (R101). -/
abbrev frameRecords : Nat := 64
/-- Longest frame body in bytes (R98). -/
abbrev maxBody : Nat := 4096
/-- A record at this send count is not sent again (R102). -/
abbrev sendLimit : Nat := 8
/-- Consecutive missed turns that take the link DOWN (R120). -/
abbrev missedLimit : Nat := 4
/-- Consecutive collisions that take the link DOWN (R123). -/
abbrev collisionLimit : Nat := 4
/-- Part number reported by PORT.IDENT (R170). -/
abbrev partNumber : Nat := 4120
/-- Silicon revision reported by PORT.IDENT (R170). -/
abbrev revision : Nat := 1

/-- FREE VALUE. The 40 bits REGION.QUERY reports for the next chunk of a region that ends at the top of the
address space once every chunk has been granted: next chunk is then 2^40, which the 40-bit field of R172 and
12_formats cannot hold, and the spec states no value. It may depend on the region's base page and size.
No body: nothing can be proved of its value (assumption log 11). -/
opaque nextChunkPastTop (basePage size : Nat) : BitVec 40

end Sys2Proof.Config
end

