-- ==== Sys2Proof/Syntax.lean ====
section
/-! DEFINITION. The 48 commands of spec/opcode_table.json with their operands, one constructor a row. -/

namespace Sys2Proof

/-- A response status of a bus transaction (00_scope, Bus transactions). -/
inductive BusStatus where
  | okay
  | fault
  deriving DecidableEq, Repr

/-- What a bus transaction does: a READ of a number of bytes, or a WRITE of data bytes, each with its
enable flag (R18). -/
inductive BusBody where
  | read (length : Nat)
  | write (bytes : List (Byte × Bool))
  deriving DecidableEq, Repr

/-- An upstream request (R18). -/
structure UpRequest where
  address : Addr
  tag : Tag
  body : BusBody
  deriving DecidableEq, Repr

/-- One SPI transaction of the management port after its request code, as received up to the rise of MG_CSN
(R167): the complete bytes that follow the code, the bits of a last byte of which fewer than 8 clocks arrived,
and whether MG_CSN fell since RESET was last released. -/
structure Transaction where
  fell : Bool
  bytes : List Byte
  tail : List Bool
  deriving DecidableEq, Repr

/-- The commands. Each constructor is one row of spec/opcode_table.json. -/
inductive Instr where
  /-- UPSTREAM_REQUEST (R19): the upstream bus presents a request. -/
  | upstreamRequest (r : UpRequest)
  /-- MALFORMED_HEAD (R20): a malformed request at the intake head is answered. -/
  | malformedHead
  /-- UP_GRANT (R26): the downstream port is granted to UP; `itag` is the free internal tag it uses. -/
  | upGrant (itag : ITag)
  /-- APL_GRANT (R145): the port is granted to APL. -/
  | aplGrant (itag : ITag)
  /-- SWP_GRANT (R83): the port is granted to SWP. -/
  | swpGrant (itag : ITag)
  /-- DOWNSTREAM_RESPONSE (R28): memory answers; `data` are the 256 read data lanes of the bus. -/
  | downstreamResponse (itag : ITag) (status : BusStatus) (data : Vector Byte 256)
  /-- UPSTREAM_RESPONSE (R32): the ready response with this tag leaves. -/
  | upstreamResponse (tag : Tag)
  /-- STALL_TIMER_EXPIRY (R23). -/
  | stallTimerExpiry
  /-- HOST_BUS_RESET (R34): HB_RST is asserted. -/
  | hostBusReset
  /-- HOST_BUS_RESET_RELEASE (R19). -/
  | hostBusResetRelease
  /-- RESET (R35): EK_RSTN is asserted. -/
  | reset
  /-- HOLD_DEADLINE_EXPIRY (R67): the deadline timer of the hold with this tag expires. -/
  | holdDeadlineExpiry (tag : Tag)
  /-- FRAME_OPPORTUNITY (R113). -/
  | frameOpportunity
  /-- FRAME_COMPLETED (R105): this node's frame has been transmitted to its end. -/
  | frameCompleted
  /-- COLLISION (R121): read-back differs from the driven bit. -/
  | collision
  /-- GUARD_TIMER_EXPIRY (R111). -/
  | guardTimerExpiry
  /-- DWELL_TIMER_EXPIRY (R114). -/
  | dwellTimerExpiry
  /-- SILENCE_TIMER_EXPIRY (R120). -/
  | silenceTimerExpiry
  /-- FRAME_MARK_DETECTED (R117): a peer frame starts. -/
  | frameMarkDetected
  /-- HEADER_RECEIVED (R127): the 20 header bytes of the peer frame have arrived. -/
  | headerReceived (bytes : List Byte)
  /-- FRAME_END (R130): the line returns to idle; `rest` are the bytes that followed the header. -/
  | frameEnd (rest : List Byte)
  /-- RETRAIN_TIMER_EXPIRY (R156). -/
  | retrainTimerExpiry
  /-- HELLO_TIMER_EXPIRY (R159). -/
  | helloTimerExpiry
  /-- REPLY_GUARD_EXPIRY (R160). -/
  | replyGuardExpiry
  /-- START_GUARD_EXPIRY (R163). -/
  | startGuardExpiry
  /-- TRAINING_TIMER_EXPIRY (R164). -/
  | trainingTimerExpiry
  /-- NOP (R170), code 0x00. -/
  | nop (t : Transaction)
  /-- PORT.IDENT (R170), code 0x01. -/
  | portIdent (t : Transaction)
  /-- REGION.SET (R2), code 0x10. -/
  | regionSet (t : Transaction)
  /-- REGION.ENABLE (R7), code 0x11. -/
  | regionEnable (t : Transaction)
  /-- REGION.DISABLE (R11), code 0x12. -/
  | regionDisable (t : Transaction)
  /-- REGION.RESYNC (R8), code 0x13. -/
  | regionResync (t : Transaction)
  /-- REGION.MODE (R12), code 0x14. -/
  | regionMode (t : Transaction)
  /-- REGION.QUERY (R172), code 0x15. -/
  | regionQuery (t : Transaction)
  /-- LINK.SET (R153), code 0x20. -/
  | linkSet (t : Transaction)
  /-- LINK.ENABLE (R154), code 0x21. -/
  | linkEnable (t : Transaction)
  /-- LINK.DISABLE (R154), code 0x22. -/
  | linkDisable (t : Transaction)
  /-- LINK.RENEW (R155), code 0x23. -/
  | linkRenew (t : Transaction)
  /-- LINK.QUERY (R174), code 0x24. -/
  | linkQuery (t : Transaction)
  /-- JOURNAL.SET (R175), code 0x30. -/
  | journalSet (t : Transaction)
  /-- JOURNAL.QUERY (R175), code 0x31. -/
  | journalQuery (t : Transaction)
  /-- EVENT.QUERY (R178), code 0x40. -/
  | eventQuery (t : Transaction)
  /-- EVENT.ACK (R178), code 0x41. -/
  | eventAck (t : Transaction)
  /-- EVENT.ENABLE (R177), code 0x42. -/
  | eventEnable (t : Transaction)
  /-- COUNTER.QUERY (R180), code 0x50. -/
  | counterQuery (t : Transaction)
  /-- COUNTER.ZERO (R180), code 0x51. -/
  | counterZero (t : Transaction)
  /-- A transaction whose bytes name none of the 20 requests (R169); here `t.bytes` begins with the code byte,
  and an empty list is the transaction in which no complete byte arrived (R167). -/
  | undefinedRequest (t : Transaction)
  /-- RESET_RELEASE (R35): EK_RSTN is released. -/
  | resetRelease
  deriving DecidableEq, Repr

end Sys2Proof
end

