-- ==== Sys2Proof/Machine/State.lean ====
section
/-! DEFINITION. Everything the spec gives the EK-4120, grouped by its eleven blocks (00_scope, Block diagram),
as plain data, and the machine right after reset. -/

namespace Sys2Proof.Machine

open Sys2Proof

/-! ### RGT: replication regions (01, R1, R17) -/

/-- Direction of a region (R1). -/
inductive Direction where
  | source
  | target
  deriving DecidableEq, Repr

/-- Mode of a region (R1). -/
inductive Mode where
  | async
  | sync
  deriving DecidableEq, Repr

/-- Full policy of a SOURCE region (R1). -/
inductive FullPolicy where
  | stall
  | drop
  deriving DecidableEq, Repr

/-- Timeout action of a SOURCE region (R1). -/
inductive TimeoutAction where
  | fail
  | degrade
  deriving DecidableEq, Repr

/-- Stray policy of a TARGET region (R1). -/
inductive StrayPolicy where
  | pass
  | reject
  deriving DecidableEq, Repr

/-- Region states (R1, 1.2). -/
inductive RegionState where
  | disabled
  | active
  | diverged
  | resyncing
  deriving DecidableEq, Repr

/-- The ten fields REGION.SET loads (R1, R2). -/
structure RegionFields where
  basePage : Nat
  size : Nat
  direction : Direction
  mode : Mode
  displacement : Int
  fullPolicy : FullPolicy
  timeout : Nat
  action : TimeoutAction
  stray : StrayPolicy
  autoResync : Bool
  deriving DecidableEq, Repr

/-- One region table entry with its three counters (R1, R17). -/
structure Region where
  fields : RegionFields
  state : RegionState
  captured : Counter
  strays : Counter
  applied : Counter
  deriving DecidableEq, Repr

/-- RGT's state: the region table (R1). -/
structure Rgt where
  entries : Vector Region 16
  deriving DecidableEq, Repr

/-! ### UPI: upstream intake (02, R18 to R23, R32) -/

/-- A response on the upstream port: the request's tag, the status, and for a READ its data (R29, R32). -/
structure UpResponse where
  tag : Tag
  status : BusStatus
  data : List Byte
  deriving DecidableEq, Repr

/-- The stall timer of the intake head: when it started, its length in µs, and whether it has expired
(R22, R23). -/
structure StallTimer where
  start : Nat
  length : Nat
  expired : Bool
  deriving DecidableEq, Repr

/-- UPI's state. -/
structure Upi where
  /-- Requests the upstream bus presents, and has behind the presented one, not yet accepted (R19). -/
  presented : List UpRequest
  /-- The intake queue, head first (R20). -/
  intake : List UpRequest
  /-- Tags in flight (R19). -/
  inFlight : List Tag
  /-- The stall timer of the current head (R22). -/
  stall : Option StallTimer
  /-- Responses ready and not yet sent (R32). -/
  responses : List UpResponse
  /-- The response last sent on the upstream port (R32). -/
  sent : Option UpResponse
  /-- Level of the HB_RST line (R34): true while host bus reset is asserted. -/
  hostReset : Bool
  deriving DecidableEq, Repr

/-! ### DNP: downstream port and arbiter (02, R24 to R28) -/

/-- The three requesters (R25). -/
inductive Requester where
  | up
  | apl
  | swp
  deriving DecidableEq, Repr

/-- How the response of an UP transaction is formed, fixed at its grant (R29, R30, R31, R75). -/
inductive UpPath where
  /-- a READ of a number of bytes (R29) -/
  | read (length : Nat)
  /-- a WRITE not captured that is answered with its downstream status (R30) -/
  | plain
  /-- a captured WRITE; `held` when HLD holds its response (R30, R31) -/
  | captured (held : Bool)
  /-- an uncaptured SYNC WRITE with the timeout action held at its grant (R31, R75) -/
  | uncapturedSync (action : TimeoutAction)
  deriving DecidableEq, Repr

/-- Owner reference of an outstanding entry (R24); it also tells the entry's requester and kind. -/
inductive Owner where
  | up (tag : Tag) (path : UpPath)
  | apl (seq : Seq)
  | swp (seq : Seq)
  deriving DecidableEq, Repr

/-- One outstanding transaction (R24). -/
structure OutEntry where
  itag : ITag
  owner : Owner
  abandoned : Bool
  deriving DecidableEq, Repr

/-- A transaction put on the downstream port (R26, R27). -/
structure DownRequest where
  itag : ITag
  address : Addr
  body : BusBody
  deriving DecidableEq, Repr

/-- DNP's state. -/
structure Dnp where
  outstanding : List OutEntry
  /-- The requester last granted (R25). -/
  rotation : Requester
  /-- The transaction the last issuing grant put on the port (R26, R27). -/
  issued : Option DownRequest
  deriving DecidableEq, Repr

/-! ### JNL: the replication journal (03, R37, R38) -/

/-- Record kinds (R38). -/
inductive RecordKind where
  | write
  | sweep
  | void
  deriving DecidableEq, Repr

/-- Record states (R40). -/
inductive RecordState where
  | filling
  | pending
  | sent
  deriving DecidableEq, Repr

/-- A journal record (R38). `data` is the empty list while it is absent (VOID, and SWEEP while FILLING). -/
structure Record where
  seq : Seq
  kind : RecordKind
  region : RegionIx
  localAddr : Addr
  remoteAddr : Addr
  length : Nat
  mask : Option (List Bool)
  data : List Byte
  state : RecordState
  sendCount : Nat
  lastSent : Option Nat
  isOpen : Bool
  deriving DecidableEq, Repr

/-- JNL's state (R37). -/
structure Jnl where
  records : List Record
  nextSeq : Seq
  latch : Bool
  highMark : Nat
  lowMark : Nat
  reserveDesc : Nat
  reserveBytes : Nat
  deriving DecidableEq, Repr

/-! ### HLD: the hold table (04, R62, R63) -/

/-- Hold states OPEN, REMOTE_MET, FAILED, WAIVED (R64). -/
inductive HoldState where
  | openHold
  | remoteMet
  | failed
  | waived
  deriving DecidableEq, Repr

/-- A hold table entry (R63). Its deadline timer is its deadline. -/
structure Hold where
  tag : Tag
  region : RegionIx
  seq : Seq
  action : TimeoutAction
  localStatus : Option BusStatus
  state : HoldState
  deadline : Nat
  deriving DecidableEq, Repr

/-- HLD's state. -/
structure Hld where
  holds : List Hold
  deriving DecidableEq, Repr

/-! ### SWP: the sweep engine (05, R77, R80) -/

/-- The sweep context (R80). Addresses are naturals here, since a region may end at 2^40. -/
structure SweepCtx where
  region : RegionIx
  nextChunk : Nat
  endAddr : Nat
  ownReads : List Seq
  lastSeq : Option Seq
  deriving DecidableEq, Repr

/-- Sweep engine states IDLE, READING, DRAINING with the context (R80). -/
inductive SweepEngine where
  | idle
  | reading (c : SweepCtx)
  | draining (c : SweepCtx)
  deriving DecidableEq, Repr

/-- SWP's state. -/
structure Swp where
  queue : List RegionIx
  engine : SweepEngine
  deriving DecidableEq, Repr

/-! ### FTX: frame builder and transmitter (06, R94) -/

/-- NAK reasons (R94). -/
inductive NakReason where
  | crc
  | gap
  | busy
  | format
  deriving DecidableEq, Repr

/-- Frame types (R95). -/
inductive FrameType where
  | data
  | ctrl
  | hello
  | start
  deriving DecidableEq, Repr

/-- The frame in progress (R94): what it is, when it started, and every byte of it from the frame mark on. -/
structure TxFrame where
  type : FrameType
  turn : Bool
  nak : Bool
  reply : Bool
  start : Nat
  bytes : List Byte
  deriving DecidableEq, Repr

/-- FTX's state. -/
structure Ftx where
  pendingNak : Option NakReason
  frame : Option TxFrame
  deriving DecidableEq, Repr

/-! ### LNC: the line controller (07, R109; 10, R152) -/

/-- A running timer: its start and its length in µs. -/
structure Timer where
  start : Nat
  length : Nat
  deriving DecidableEq, Repr

/-- A running guard timer: its start and its length in bit times (R111, R160, R163). -/
structure GuardTimer where
  start : Nat
  bits : Nat
  deriving DecidableEq, Repr

/-- Link roles (R153). -/
inductive Role where
  | primary
  | secondary
  deriving DecidableEq, Repr

/-- The ten link parameters (R153). -/
structure LinkParams where
  role : Role
  guard : Nat
  dwell : Nat
  silence : Nat
  ackTimeout : Nat
  burst : Nat
  window : Nat
  helloInterval : Nat
  trainingLimit : Nat
  retrainDelay : Nat
  deriving DecidableEq, Repr

/-- Training phases (R159, R160). -/
inductive Phase where
  | calling
  | starting
  | waiting
  | replying
  | replied
  deriving DecidableEq, Repr

/-- Session decisions NEW and RESUME (R161). -/
inductive Decision where
  | newSession
  | resume
  deriving DecidableEq, Repr

/-- A training frame LNC has asked for and that waits for the idle line (R159, R160, R163). -/
inductive TrainFrame where
  | hello
  | reply
  | start
  deriving DecidableEq, Repr

/-- The training context, with the timers that exist only in TRAINING (R152, R159, R160, R163, R164). -/
structure Training where
  phase : Phase
  guard : Option GuardTimer
  hello : Option Timer
  limit : Timer
  storedE : Option Seq
  decision : Option Decision
  want : Option TrainFrame
  deriving DecidableEq, Repr

/-- Turn sub-states (R109). -/
inductive SubState where
  | hold
  | listen
  | guard
  deriving DecidableEq, Repr

/-- The silence timer (R117). -/
inductive Silence where
  | stopped
  | running (t : Timer)
  | held
  deriving DecidableEq, Repr

/-- The turn state, which exists only while the link is UP (R109). `turnSent`: a TURN frame has been started
in this turn (R113). -/
structure Turn where
  sub : SubState
  guard : Option GuardTimer
  dwell : Option Timer
  silence : Silence
  frames : Nat
  turnSent : Bool
  missed : Nat
  collisions : Nat
  deriving DecidableEq, Repr

/-- The link state with what exists only in it (R109, R152): the training context in TRAINING, the turn state
in UP, the running retrain timer in DOWN. -/
inductive Link where
  | disabled
  | training (t : Training)
  | up (u : Turn)
  | down (retrain : Timer)
  deriving DecidableEq, Repr

/-- Last DOWN causes (R154, R156). -/
inductive DownCause where
  | retryLimit
  | missedTurns
  | collisions
  | trainTimeout
  | roleConflict
  | renew
  | peerRetrain
  | disabled
  deriving DecidableEq, Repr

/-- LNC's state. -/
structure Lnc where
  link : Link
  lastCause : Option DownCause
  fresh : Bool
  unconfirmed : Bool
  peerWindow : Option Nat
  params : LinkParams
  /-- A peer frame is on the line: from its mark to the line's return to idle (R117, R127). -/
  lineBusy : Bool
  /-- A peer frame that met this node's own, so that its mark was not detected, is on the line: to the line's return
  to idle (R116, R121, R159; assumption log 17). -/
  lineMet : Bool
  deriving DecidableEq, Repr

/-! ### FRX: the frame receiver (08, R126) -/

/-- The fields of a frame header (R96, 12_formats). `type` is none for a type code the formats do not define;
`reason` is none for NAK reason 0x00 and for an undefined reason (R182). -/
structure Header where
  type : Option FrameType
  turn : Bool
  nak : Bool
  fresh : Bool
  reply : Bool
  lengthClass : Nat
  reason : Option NakReason
  count : Nat
  firstSeq : Seq
  rcvAck : Seq
  aplAck : Seq
  deriving DecidableEq, Repr

/-- The frame in reception (R126, R127): its mark has been seen; its header was bad (R119); or its header is
good. -/
inductive Reception where
  | marked
  | badHeader
  | header (h : Header)
  deriving DecidableEq, Repr

/-- FRX's state. -/
structure Frx where
  /-- E, the next seq to accept. -/
  expected : Seq
  rx : Option Reception
  lastNak : Option NakReason
  deriving DecidableEq, Repr

/-! ### APL: the apply engine (09, R141) -/

/-- Apply states (R141). -/
inductive ApplyState where
  | waiting
  | inFlight
  | done
  deriving DecidableEq, Repr

/-- A received record in the apply queue (R135, R141). -/
structure ApplyRec where
  seq : Seq
  kind : RecordKind
  remoteAddr : Addr
  length : Nat
  mask : Option (List Bool)
  data : List Byte
  state : ApplyState
  deriving DecidableEq, Repr

/-- An apply write on the port (R141); the internal tag identifies it. -/
structure AplEntry where
  itag : ITag
  seq : Seq
  region : RegionIx
  orphaned : Bool
  deriving DecidableEq, Repr

/-- APL's state. -/
structure Apl where
  /-- A, the seq of the oldest record not yet finished. -/
  applied : Seq
  queue : List ApplyRec
  issue : Seq
  inFlight : List AplEntry
  deriving DecidableEq, Repr

/-! ### MGP: management port, events and counters (11) -/

/-- Status codes of a response (R168, R169). `noneYet` is NONE. -/
inductive Status where
  | ok
  | badCode
  | badLength
  | badIndex
  | badValue
  | badState
  | overlap
  | noneYet
  deriving DecidableEq, Repr

/-- The response buffer (R168). -/
structure Response where
  status : Status
  payload : List Byte
  deriving DecidableEq, Repr

/-- The 16 event kinds (11.3). -/
inductive EventKind where
  | linkUp
  | linkDown
  | sessionNew
  | regionDiverged
  | resyncDone
  | sweepFault
  | syncTimeout
  | stallExpired
  | jnlHigh
  | jnlLow
  | localFault
  | strayWrite
  | applyUnmapped
  | applyFault
  | linkProtocol
  | hostReset
  deriving DecidableEq, Repr

/-- The 16 device counters (11.4). -/
inductive DevCounter where
  | framesOut
  | framesIn
  | hdrCrcErr
  | bodyCrcErr
  | nakSent
  | nakReceived
  | goBacks
  | duplicates
  | collisions
  | missedTurns
  | sessionsNew
  | sessionsResumed
  | unmapped
  | applyFaults
  | syncTimeouts
  | stalls
  deriving DecidableEq, Repr

/-- Pending flag and occurrence count of one event kind (R176). -/
structure EventSlot where
  pending : Bool
  count : Byte
  deriving DecidableEq, Repr

/-- MGP's state. -/
structure Mgp where
  response : Response
  events : Vector EventSlot 16
  divergedMask : Vector Bool 16
  enableMask : Vector Bool 16
  counters : Vector Counter 16
  /-- Bytes shifted out on MG_MISO in the last transaction (R168). -/
  miso : List Byte
  /-- Bits shifted out for the incomplete last byte of that transaction. -/
  misoTail : List Bool
  deriving DecidableEq, Repr

/-! ### The machine -/

/-- The whole part, and the queue of commands waiting for it, first in first out. -/
structure State where
  upi : Upi
  rgt : Rgt
  dnp : Dnp
  jnl : Jnl
  hld : Hld
  swp : Swp
  ftx : Ftx
  lnc : Lnc
  frx : Frx
  apl : Apl
  mgp : Mgp
  /-- The µs timebase (00_scope, Time). -/
  now : Nat
  /-- Level of EK_RSTN: true while RESET is asserted (R35). -/
  inReset : Bool
  /-- Commands waiting, front first. -/
  pending : List Instr
  deriving DecidableEq, Repr

/-- Why a command stops the machine: nothing does. Every fault of the manual is a status, a response, an event
or a counter of a next state, so this type has no constructor (assumption log 22). -/
inductive Fault where
  deriving DecidableEq, Repr

/-- Why a command has no meaning. -/
inductive Refusal where
  /-- Raised by an arm of `exec` for a command that is not modelled yet (none is left). Safe: the machine stops
  where the part goes on. -/
  | notModelled (mnemonic : String)
  deriving DecidableEq, Repr

/-- The loadable fields of a region table entry after RESET (R1). -/
def RegionFields.afterReset : RegionFields where
  basePage := 0
  size := 1
  direction := .source
  mode := .async
  displacement := 0
  fullPolicy := .stall
  timeout := 1000
  action := .fail
  stray := .pass
  autoResync := false

/-- A region table entry after RESET (R1, R17). -/
def Region.afterReset : Region where
  fields := RegionFields.afterReset
  state := .disabled
  captured := 0
  strays := 0
  applied := 0

/-- The link parameters after RESET (R153). -/
def LinkParams.afterReset : LinkParams where
  role := .primary
  guard := 64
  dwell := 20
  silence := 100
  ackTimeout := 500
  burst := 4
  window := 512
  helloInterval := 200
  trainingLimit := 20
  retrainDelay := 5

/-- MGP after RESET (R168, R176, R177, R179). -/
def Mgp.afterReset : Mgp where
  response := ⟨.noneYet, []⟩
  events := Vector.replicate 16 ⟨false, 0⟩
  divergedMask := Vector.replicate 16 false
  enableMask := Vector.replicate 16 false
  counters := Vector.replicate 16 0
  miso := []
  misoTail := []

/-- The machine right after reset: RESET has been asserted and released, every field at the value its rule
states (R1, R17, R35, R37, R62, R77, R80, R94, R109, R126, R141, R152, R153, R168, R176, R177, R179). The
levels of the two reset lines, the idle line, the empty bus and the port outputs are DESIGN CHOICE
(assumption log 5). -/
def State.reset : State where
  upi :=
    { presented := [], intake := [], inFlight := [], stall := none, responses := [], sent := none,
      hostReset := false }
  rgt := { entries := Vector.replicate 16 Region.afterReset }
  dnp := { outstanding := [], rotation := .swp, issued := none }
  jnl :=
    { records := [], nextSeq := 0, latch := false, highMark := 75, lowMark := 50, reserveDesc := 128,
      reserveBytes := 16384 }
  hld := { holds := [] }
  swp := { queue := [], engine := .idle }
  ftx := { pendingNak := none, frame := none }
  lnc :=
    { link := .disabled, lastCause := none, fresh := true, unconfirmed := false, peerWindow := none,
      params := LinkParams.afterReset, lineBusy := false, lineMet := false }
  frx := { expected := 0, rx := none, lastNak := none }
  apl := { applied := 0, queue := [], issue := 0, inFlight := [] }
  mgp := Mgp.afterReset
  now := 0
  inReset := false
  pending := []

end Sys2Proof.Machine
end

