-- ==== Sys2Proof/Machine/Flags.lean ====
section
/-! DEFINITION. Events, the region-diverged mask, the interrupt line and the counters (11.3, 11.4, R17, R176,
R177, R179): every block raises and counts through these operations. -/

namespace Sys2Proof.Machine

/-- The number of an event kind (12_formats, the table of kinds). -/
def EventKind.ix : EventKind → Fin 16
  | .linkUp => 0
  | .linkDown => 1
  | .sessionNew => 2
  | .regionDiverged => 3
  | .resyncDone => 4
  | .sweepFault => 5
  | .syncTimeout => 6
  | .stallExpired => 7
  | .jnlHigh => 8
  | .jnlLow => 9
  | .localFault => 10
  | .strayWrite => 11
  | .applyUnmapped => 12
  | .applyFault => 13
  | .linkProtocol => 14
  | .hostReset => 15

/-- The id of a device counter (12_formats, counter ids 0x00 to 0x0F). -/
def DevCounter.ix : DevCounter → Fin 16
  | .framesOut => 0
  | .framesIn => 1
  | .hdrCrcErr => 2
  | .bodyCrcErr => 3
  | .nakSent => 4
  | .nakReceived => 5
  | .goBacks => 6
  | .duplicates => 7
  | .collisions => 8
  | .missedTurns => 9
  | .sessionsNew => 10
  | .sessionsResumed => 11
  | .unmapped => 12
  | .applyFaults => 13
  | .syncTimeouts => 14
  | .stalls => 15

/-- One more, unless saturated at the largest value of the width (00_scope, Counters). -/
def satInc {w : Nat} (c : BitVec w) : BitVec w :=
  if c = BitVec.allOnes w then c else c + 1

/-- Raise an event with one occurrence (R176): the kind becomes pending and its count rises, up to 255. -/
def Mgp.raise (k : EventKind) (m : Mgp) : Mgp :=
  { m with events := m.events.set k.ix ⟨true, satInc m.events[k.ix].count⟩ }

/-- Raise REGION_DIVERGED for a region, which also sets its flag in the region-diverged mask (R176). -/
def Mgp.raiseDiverged (r : RegionIx) (m : Mgp) : Mgp :=
  { m.raise .regionDiverged with divergedMask := m.divergedMask.set r true }

/-- Count one device counter (R179). -/
def Mgp.count (c : DevCounter) (m : Mgp) : Mgp :=
  { m with counters := m.counters.set c.ix (satInc m.counters[c.ix]) }

/-- EK_INT is asserted while at least one kind is both pending and enabled (R177). -/
def Mgp.ekInt (m : Mgp) : Bool :=
  (List.finRange 16).any fun k => m.events[k].pending && m.enableMask[k]

/-- Raise an event (R176). -/
def State.raise (k : EventKind) (s : State) : State := { s with mgp := s.mgp.raise k }

/-- Count a device counter (R179). -/
def State.count (c : DevCounter) (s : State) : State := { s with mgp := s.mgp.count c }

end Sys2Proof.Machine
end

