-- ==== Sys2Proof/Machine/Operands.lean ====
section
/-! DEFINITION. Sequence comparisons, journal accounting, pages and addresses, big-endian numbers, flag bytes
and the two CRCs (00_scope, Conventions; R181). -/

namespace Sys2Proof.Machine

/-! ### Sequence numbers (00_scope) -/

/-- a precedes b: (b - a) mod 2^32 lies in 1 to 2^31 - 1. -/
def precedes (a b : Seq) : Bool :=
  decide (1 ≤ (b - a).toNat ∧ (b - a).toNat ≤ 2 ^ 31 - 1)

/-- a is at or before b. -/
def atOrBefore (a b : Seq) : Bool := decide (a = b) || precedes a b

/-- a is at or after b. -/
def atOrAfter (a b : Seq) : Bool := decide (a = b) || precedes b a

/-- a is within [x, y]. -/
def within (a x y : Seq) : Bool := atOrAfter a x && atOrBefore a y

/-! ### Journal and queue accounting (00_scope, R41) -/

/-- ceil(n/16) × 16. -/
def ceil16 (n : Nat) : Nat := (n + 15) / 16 * 16

/-! ### Pages and addresses (00_scope) -/

/-- Page number of an address. -/
def pageOf (a : Addr) : Nat := a.toNat / Config.pageBytes

/-- Offset of an address in its page. -/
def pageOffset (a : Addr) : Nat := a.toNat % Config.pageBytes

/-- The remote address: the local address plus the displacement times 4096 (R4). -/
def remoteOf (a : Addr) (displacement : Int) : Addr :=
  BitVec.ofInt 40 ((a.toNat : Int) + displacement * 4096)

/-! ### Bus transactions (R18) -/

/-- Bytes a transaction covers: the length of a READ, the data bytes of a WRITE. -/
def bodyLength : BusBody → Nat
  | .read n => n
  | .write bytes => bytes.length

/-- At least one byte is enabled. -/
def anyEnabled (bytes : List (Byte × Bool)) : Bool := bytes.any (·.2)

/-- The write is fully enabled: every byte is. -/
def allEnabled (bytes : List (Byte × Bool)) : Bool := bytes.all (·.2)

/-- A request is malformed if its length is 0 or exceeds 256 or it crosses a page boundary (R18). -/
def malformed (r : UpRequest) : Bool :=
  decide (bodyLength r.body = 0 ∨ Config.maxLength < bodyLength r.body ∨
    Config.pageBytes < pageOffset r.address + bodyLength r.body)

/-! ### Numbers as bytes, most significant first (12_formats) -/

/-- The low `k` bytes of a number, most significant first. -/
def beBytes (k n : Nat) : List Byte :=
  match k with
  | 0 => []
  | k + 1 => beBytes k (n / 256) ++ [BitVec.ofNat 8 n]

/-- The number that bytes spell, most significant first. -/
def beNat (bytes : List Byte) : Nat := bytes.foldl (fun n b => n * 256 + b.toNat) 0

/-- The field of width `w` at an offset. -/
def field (bytes : List Byte) (offset w : Nat) : Nat := beNat ((bytes.drop offset).take w)

/-- The 32-bit field at an offset. -/
def seqField (bytes : List Byte) (offset : Nat) : Seq := BitVec.ofNat 32 (field bytes offset 4)

/-! ### Flag bytes (12_formats) -/

/-- A byte from up to 8 flags, bit 7 first; missing flags are 0. -/
def flagByte (flags : List Bool) : Byte :=
  BitVec.ofNat 8 ((List.range 8).foldl (fun n i => n * 2 + (flags.getD i false).toNat) 0)

/-- Mask bytes: byte j holds the flags of data bytes 8j to 8j + 7, bit 7 first (12_formats, 12.1). -/
def maskBytes (flags : List Bool) : List Byte :=
  (List.range ((flags.length + 7) / 8)).map fun j => flagByte ((flags.drop (8 * j)).take 8)

/-- The first `len` flags of mask bytes. -/
def maskFlags (len : Nat) (bytes : List Byte) : List Bool :=
  (List.range len).map fun i => (bytes.getD (i / 8) 0).getLsbD (7 - i % 8)

/-- A 2-byte set of 16 flags: flag k is bit k, counting from bit 0 of the second byte (12.2). -/
def flags16 (v : Vector Bool 16) : List Byte :=
  beBytes 2 (v.toList.foldr (fun b n => n * 2 + b.toNat) 0)

/-- The 16 flags of a 2-byte set. -/
def flagsOf (bytes : List Byte) : Vector Bool 16 :=
  Vector.ofFn fun k => (field bytes 0 2).testBit k

/-! ### CRC-16 and CRC-32 (R181) -/

/-- Feed one bit to a CRC register. -/
def crcBit {w : Nat} (poly reg : BitVec w) (bit : Bool) : BitVec w :=
  if (reg.msb ^^ bit) then (reg <<< 1) ^^^ poly else reg <<< 1

/-- Feed a byte, most significant bit first. -/
def crcByte {w : Nat} (poly reg : BitVec w) (b : Byte) : BitVec w :=
  [7, 6, 5, 4, 3, 2, 1, 0].foldl (fun r i => crcBit poly r (b.getLsbD i)) reg

/-- The header CRC-16: polynomial 0x1021, register 0xFFFF, stored unchanged. -/
def crc16 (bytes : List Byte) : BitVec 16 := bytes.foldl (crcByte 0x1021#16) 0xFFFF#16

/-- The body CRC-32: polynomial 0x04C11DB7, register 0xFFFFFFFF, stored inverted. -/
def crc32 (bytes : List Byte) : BitVec 32 := ~~~ (bytes.foldl (crcByte 0x04C11DB7#32) 0xFFFFFFFF#32)

/-! ### Time -/

/-- The least number of µs of the timebase that a number of bit times of 4 ns spans (00_scope, Time). -/
def bitsToUs (bits : Nat) : Nat := bits * 4 / 1000

end Sys2Proof.Machine
end

