-- ==== Sys2Proof/Machine/Formats.lean ====
section
/-! DEFINITION. The byte layouts of chapter 12: headers, records, bodies and training bodies on the line, and the
codes of the management port, built and read (R96, R98, R99, R132, R182). -/

namespace Sys2Proof.Machine

/-! ### Codes (12_formats) -/

/-- Frame type codes. -/
def FrameType.code : FrameType → Byte
  | .data => 0x01
  | .ctrl => 0x02
  | .hello => 0x03
  | .start => 0x04

/-- The frame type of a code; none where the formats define no type (R182). -/
def frameTypeOf (b : Byte) : Option FrameType :=
  if b = 0x01 then some .data
  else if b = 0x02 then some .ctrl
  else if b = 0x03 then some .hello
  else if b = 0x04 then some .start
  else none

/-- NAK reason codes, none being 0x00. -/
def nakCode : Option NakReason → Byte
  | none => 0x00
  | some .crc => 0x01
  | some .gap => 0x02
  | some .busy => 0x03
  | some .format => 0x04

/-- The reason of a code; none for 0x00 and for a code the formats do not define (R182). -/
def nakOf (b : Byte) : Option NakReason :=
  if b = 0x01 then some .crc
  else if b = 0x02 then some .gap
  else if b = 0x03 then some .busy
  else if b = 0x04 then some .format
  else none

/-- Record kind codes. -/
def RecordKind.code : RecordKind → Nat
  | .write => 1
  | .sweep => 2
  | .void => 3

/-- The record kind of a code. -/
def recordKindOf (n : Nat) : Option RecordKind :=
  match n with
  | 1 => some .write
  | 2 => some .sweep
  | 3 => some .void
  | _ => none

/-- Role codes. -/
def Role.code : Role → Byte
  | .primary => 0
  | .secondary => 1

/-- The role of a code. -/
def roleOf (b : Byte) : Option Role :=
  if b = 0 then some .primary else if b = 1 then some .secondary else none

/-- Session decision codes of a START body. -/
def Decision.code : Decision → Byte
  | .newSession => 0x01
  | .resume => 0x02

/-- The session decision of a code. -/
def decisionOf (b : Byte) : Option Decision :=
  if b = 0x01 then some .newSession else if b = 0x02 then some .resume else none

/-! ### The frame header (R96, 12.1) -/

/-- Header offsets 0 to 17. -/
def headerFields (h : Header) : List Byte :=
  [(h.type.map FrameType.code).getD 0, flagByte [h.turn, h.nak, h.fresh, h.reply],
    BitVec.ofNat 8 h.lengthClass, nakCode h.reason]
    ++ beBytes 2 h.count ++ beBytes 4 h.firstSeq.toNat ++ beBytes 4 h.rcvAck.toNat
    ++ beBytes 4 h.aplAck.toNat

/-- The 20 header bytes, CRC-16 last. -/
def encodeHeader (h : Header) : List Byte :=
  headerFields h ++ beBytes 2 (crc16 (headerFields h)).toNat

/-- The fields of 20 header bytes; flag bits 3 to 0 and length class bits 7 to 3 are not examined (R182). -/
def headerOf (bytes : List Byte) : Header :=
  { type := frameTypeOf (bytes.getD 0 0)
    turn := (bytes.getD 1 0).getLsbD 7
    nak := (bytes.getD 1 0).getLsbD 6
    fresh := (bytes.getD 1 0).getLsbD 5
    reply := (bytes.getD 1 0).getLsbD 4
    lengthClass := (bytes.getD 2 0).toNat % 8
    reason := nakOf (bytes.getD 3 0)
    count := field bytes 4 2
    firstSeq := seqField bytes 6
    rcvAck := seqField bytes 10
    aplAck := seqField bytes 14 }

/-- A header is good when its 20 bytes have arrived and its CRC-16 matches (R119, R127, R181). -/
def headerGood (bytes : List Byte) : Bool :=
  decide (bytes.length = 20) && decide (field bytes 18 2 = (crc16 (bytes.take 18)).toNat)

/-! ### Bodies (R98) -/

/-- Bytes of a body of a length class. -/
def bodyBytes (cls : Nat) : Nat := 128 * 2 ^ cls

/-- The smallest length class whose body holds `need` bytes, 5 being the largest (R103). -/
def lengthClassFor (need : Nat) : Nat :=
  if need ≤ 128 then 0
  else if need ≤ 256 then 1
  else if need ≤ 512 then 2
  else if need ≤ 1024 then 3
  else if need ≤ 2048 then 4
  else 5

/-- A body: the content, zero fill, and the CRC-32 in the last 4 bytes (R98). -/
def buildBody (cls : Nat) (content : List Byte) : List Byte :=
  let covered := content ++ List.replicate (bodyBytes cls - 4 - content.length) 0
  covered ++ beBytes 4 (crc32 covered).toNat

/-- The body of a length class arrived in full and its CRC-32 matches (R131). -/
def bodyGood (cls : Nat) (bytes : List Byte) : Bool :=
  let n := bodyBytes cls
  decide (n ≤ bytes.length) &&
    decide (field bytes (n - 4) 4 = (crc32 (bytes.take (n - 4))).toNat)

/-! ### Records in a DATA body (R99, R132) -/

/-- A record as it travels: what R99 encodes and R135 takes. -/
structure WireRecord where
  kind : RecordKind
  remoteAddr : Addr
  length : Nat
  mask : Option (List Bool)
  data : List Byte
  deriving DecidableEq, Repr

/-- A journal record's wire fields (R99). -/
def Record.wire (r : Record) : WireRecord := ⟨r.kind, r.remoteAddr, r.length, r.mask, r.data⟩

/-- The 8-byte record header, the mask when present, and the data (R99, 12.1). -/
def encodeRecord (w : WireRecord) : List Byte :=
  [BitVec.ofNat 8 (w.kind.code * 16 + w.mask.isSome.toNat * 8), BitVec.ofNat 8 (w.length - 1)]
    ++ beBytes 5 w.remoteAddr.toNat ++ [0] ++ (w.mask.map maskBytes).getD [] ++ w.data

/-- A record's encoded size: 8 + ceil(L/8) + L with a mask, 8 + L without, 8 for VOID (R99). -/
def encodedSize (r : Record) : Nat :=
  8 + (if r.mask.isSome then (r.length + 7) / 8 else 0) + r.length

/-- Read one record from the front of a body; none when it is malformed (R132). -/
def parseRecord (bytes : List Byte) : Option (WireRecord × List Byte) :=
  if bytes.length < 8 then none
  else
    let first := bytes.getD 0 0
    let masked := first.getLsbD 3
    let len := (bytes.getD 1 0).toNat + 1
    let remote : Addr := BitVec.ofNat 40 (field bytes 2 5)
    match recordKindOf (first.toNat / 16) with
    | none => none
    | some .void => if masked then none else some (⟨.void, remote, 0, none, []⟩, bytes.drop 8)
    | some kind =>
      let maskLen := if masked then (len + 7) / 8 else 0
      if bytes.length < 8 + maskLen + len then none
      else if kind = .sweep ∧ (masked ∨ len ≠ Config.chunkBytes) then none
      else if Config.pageBytes < pageOffset remote + len then none
      else
        some (⟨kind, remote, len,
            if masked then some (maskFlags len ((bytes.drop 8).take maskLen)) else none,
            (bytes.drop (8 + maskLen)).take len⟩,
          bytes.drop (8 + maskLen + len))

/-- Read `n` records back to back (R132); the bytes after the last one are not examined. -/
def parseRecords : Nat → List Byte → Option (List WireRecord)
  | 0, _ => some []
  | n + 1, bytes =>
    match parseRecord bytes with
    | none => none
    | some (w, rest) => (parseRecords n rest).map (w :: ·)

/-! ### Training bodies (R107, 12.1) -/

/-- The fields of a HELLO body. -/
structure HelloBody where
  role : Role
  expected : Seq
  nextSeq : Seq
  oldest : Seq
  window : Nat
  deriving DecidableEq, Repr

/-- HELLO body offsets 0 to 14. -/
def encodeHello (b : HelloBody) : List Byte :=
  b.role.code :: (beBytes 4 b.expected.toNat ++ beBytes 4 b.nextSeq.toNat ++ beBytes 4 b.oldest.toNat
    ++ beBytes 2 b.window)

/-- A HELLO body; none when it holds an undefined role code or a window outside 1 to 1024 (R158, R182). -/
def helloOf (body : List Byte) : Option HelloBody :=
  match roleOf (body.getD 0 0) with
  | none => none
  | some role =>
    let window := field body 13 2
    if 1 ≤ window ∧ window ≤ 1024 then
      some ⟨role, seqField body 1, seqField body 5, seqField body 9, window⟩
    else none

/-! ### Codes of the management port (12.2) -/

/-- Status codes. -/
def Status.code : Status → Byte
  | .ok => 0x00
  | .badCode => 0x01
  | .badLength => 0x02
  | .badIndex => 0x03
  | .badValue => 0x04
  | .badState => 0x05
  | .overlap => 0x06
  | .noneYet => 0xFF

/-- A two-valued enumeration: code 0, code 1, or undefined (12.2). -/
def enumOf {α : Type} (zero one : α) (b : Byte) : Option α :=
  if b = 0 then some zero else if b = 1 then some one else none

/-- Direction codes. -/
def Direction.code : Direction → Byte
  | .source => 0
  | .target => 1

/-- Mode codes. -/
def Mode.code : Mode → Byte
  | .async => 0
  | .sync => 1

/-- Full policy codes. -/
def FullPolicy.code : FullPolicy → Byte
  | .stall => 0
  | .drop => 1

/-- Timeout action codes. -/
def TimeoutAction.code : TimeoutAction → Byte
  | .fail => 0
  | .degrade => 1

/-- Stray policy codes. -/
def StrayPolicy.code : StrayPolicy → Byte
  | .pass => 0
  | .reject => 1

/-- Region state codes. -/
def RegionState.code : RegionState → Byte
  | .disabled => 0
  | .active => 1
  | .diverged => 2
  | .resyncing => 3

/-- Link state codes. -/
def Link.code : Link → Byte
  | .disabled => 0
  | .training _ => 1
  | .up _ => 2
  | .down _ => 3

/-- Last DOWN cause codes, none being 0. -/
def causeCode : Option DownCause → Byte
  | none => 0
  | some .retryLimit => 1
  | some .missedTurns => 2
  | some .collisions => 3
  | some .trainTimeout => 4
  | some .roleConflict => 5
  | some .renew => 6
  | some .peerRetrain => 7
  | some .disabled => 8

/-- Training phase codes. -/
def Phase.code : Phase → Byte
  | .calling => 1
  | .starting => 2
  | .waiting => 3
  | .replying => 4
  | .replied => 5

/-- Turn sub-state codes. -/
def SubState.code : SubState → Byte
  | .hold => 1
  | .listen => 2
  | .guard => 3

/-- The bytes of a response buffer: status, payload length, payload (R168). -/
def Response.bytes (r : Response) : List Byte :=
  r.status.code :: BitVec.ofNat 8 r.payload.length :: r.payload

/-! ### Region fields and link parameters as payload bytes (12.2) -/

/-- REGION.SET's ten fields, offsets 1 to 20 of its payload. -/
def encodeFields (f : RegionFields) : List Byte :=
  beBytes 4 f.basePage ++ beBytes 4 f.size ++ [f.direction.code, f.mode.code]
    ++ beBytes 4 (BitVec.ofInt 32 f.displacement).toNat ++ [f.fullPolicy.code] ++ beBytes 2 f.timeout
    ++ [f.action.code, f.stray.code, BitVec.ofNat 8 f.autoResync.toNat]

/-- A value of every field meets its range and the displacement meets R4 (R1, R2, R4). -/
def RegionFields.inRange (f : RegionFields) : Bool :=
  decide (f.basePage < Config.pageCount ∧ 1 ≤ f.size ∧ f.basePage + f.size ≤ Config.pageCount ∧
    1 ≤ f.timeout ∧ f.timeout ≤ 65535 ∧
    0 ≤ (f.basePage : Int) + f.displacement ∧
    (f.basePage : Int) + f.size + f.displacement - 1 ≤ (Config.pageCount : Int) - 1)

/-- The ten fields of a REGION.SET payload; none when a code is undefined (R169). -/
def fieldsOf (p : List Byte) : Option RegionFields := do
  let direction ← enumOf .source .target (p.getD 9 0)
  let mode ← enumOf .async .sync (p.getD 10 0)
  let fullPolicy ← enumOf .stall .drop (p.getD 15 0)
  let action ← enumOf .fail .degrade (p.getD 18 0)
  let stray ← enumOf .pass .reject (p.getD 19 0)
  let autoResync ← enumOf false true (p.getD 20 0)
  some { basePage := field p 1 4, size := field p 5 4, direction, mode,
         displacement := (seqField p 11).toInt, fullPolicy, timeout := field p 16 2, action, stray,
         autoResync }

/-- The 18 bytes of LINK.SET. -/
def encodeParams (q : LinkParams) : List Byte :=
  [q.role.code] ++ beBytes 2 q.guard ++ beBytes 2 q.dwell ++ beBytes 2 q.silence ++ beBytes 2 q.ackTimeout
    ++ beBytes 1 q.burst ++ beBytes 2 q.window ++ beBytes 2 q.helloInterval ++ beBytes 2 q.trainingLimit
    ++ beBytes 2 q.retrainDelay

/-- Every parameter lies in its range and the silence is at least twice the dwell (R153). -/
def LinkParams.inRange (q : LinkParams) : Bool :=
  decide (16 ≤ q.guard ∧ q.guard ≤ 1023 ∧ 1 ≤ q.dwell ∧ q.dwell ≤ 1000 ∧
    10 ≤ q.silence ∧ q.silence ≤ 10000 ∧ 2 * q.dwell ≤ q.silence ∧
    10 ≤ q.ackTimeout ∧ q.ackTimeout ≤ 65535 ∧ 1 ≤ q.burst ∧ q.burst ≤ 16 ∧
    1 ≤ q.window ∧ q.window ≤ 1024 ∧ 50 ≤ q.helloInterval ∧ q.helloInterval ≤ 10000 ∧
    1 ≤ q.trainingLimit ∧ q.trainingLimit ≤ 1000 ∧ q.retrainDelay ≤ 1000)

/-- The ten parameters of a LINK.SET payload; none when the role code is undefined (R169). -/
def paramsOf (p : List Byte) : Option LinkParams :=
  (roleOf (p.getD 0 0)).map fun role =>
    { role, guard := field p 1 2, dwell := field p 3 2, silence := field p 5 2, ackTimeout := field p 7 2,
      burst := field p 9 1, window := field p 10 2, helloInterval := field p 12 2,
      trainingLimit := field p 14 2, retrainDelay := field p 16 2 }

end Sys2Proof.Machine
end

