-- ==== Sys2Proof/Machine/Regions.lean ====
section
/-! DEFINITION. RGT's operations: lookup and overlap (R5, R14, R143), divergence with what it does to the sweep
(R9, R79, R91), entry into RESYNCING (R7, R8, R78), mode changes (R12). -/

namespace Sys2Proof.Machine

/-- A region table entry. -/
def State.region (s : State) (r : RegionIx) : Region := s.rgt.entries[r]

/-- Replace a region table entry. -/
def State.setRegion (r : RegionIx) (e : Region) (s : State) : State :=
  { s with rgt := ⟨s.rgt.entries.set r e⟩ }

/-- Set the state of a region. -/
def State.setRegionState (r : RegionIx) (st : RegionState) (s : State) : State :=
  s.setRegion r { s.region r with state := st }

/-- Set the mode of a region, whatever its state and direction (R12, R69). -/
def State.setMode (r : RegionIx) (m : Mode) (s : State) : State :=
  s.setRegion r { s.region r with fields := { (s.region r).fields with mode := m } }

/-- Count CAPTURED of a region (R17). -/
def State.countCaptured (r : RegionIx) (s : State) : State :=
  s.setRegion r { s.region r with captured := satInc (s.region r).captured }

/-- Count STRAY of a region (R17). -/
def State.countStray (r : RegionIx) (s : State) : State :=
  s.setRegion r { s.region r with strays := satInc (s.region r).strays }

/-- Count APPLIED of a region (R17). -/
def State.countApplied (r : RegionIx) (s : State) : State :=
  s.setRegion r { s.region r with applied := satInc (s.region r).applied }

/-- A page lies in an entry's local pages. -/
def RegionFields.covers (f : RegionFields) (p : Nat) : Bool :=
  decide (f.basePage ≤ p ∧ p < f.basePage + f.size)

/-- Two runs of local pages share a page (R5). -/
def RegionFields.sharesPage (f g : RegionFields) : Bool :=
  decide (f.basePage < g.basePage + g.size ∧ g.basePage < f.basePage + f.size)

/-- The region of a page: the entry that is not DISABLED and covers it (R14). By R5 there is at most one. -/
def State.lookup (s : State) (p : Nat) : Option RegionIx :=
  (List.finRange 16).find? fun r =>
    decide ((s.region r).state ≠ .disabled) && (s.region r).fields.covers p

/-- APL's target lookup: the TARGET entry that is not DISABLED and covers the page (R143). -/
def State.lookupTarget (s : State) (a : Addr) : Option RegionIx :=
  (List.finRange 16).find? fun r =>
    decide ((s.region r).state ≠ .disabled) && decide ((s.region r).fields.direction = .target) &&
      (s.region r).fields.covers (pageOf a)

/-- Some other entry that is not DISABLED shares a page with this one (R5). -/
def State.overlaps (s : State) (r : RegionIx) : Bool :=
  (List.finRange 16).any fun q =>
    decide (q ≠ r) && decide ((s.region q).state ≠ .disabled) &&
      (s.region r).fields.sharesPage (s.region q).fields

/-- The entry is a SOURCE in ACTIVE or RESYNCING: writes granted in it are captured (R15). -/
def Region.capturing (e : Region) : Bool :=
  decide (e.fields.direction = .source ∧ (e.state = .active ∨ e.state = .resyncing))

/-- The context of the sweep that runs, if one does (R80). -/
def SweepEngine.ctx? : SweepEngine → Option SweepCtx
  | .idle => none
  | .reading c => some c
  | .draining c => some c

/-- A region leaves RESYNCING: its index leaves the resync queue (R79), and its sweep, if it is the one that
runs, is aborted (R91). -/
def State.dropSweep (r : RegionIx) (s : State) : State :=
  { s with swp :=
      { queue := s.swp.queue.filter fun q => decide (q ≠ r)
        engine := if s.swp.engine.ctx?.any fun c => decide (c.region = r) then .idle else s.swp.engine } }

/-- A cause of divergence reaches an entry (R9): a SOURCE in ACTIVE or RESYNCING becomes DIVERGED with
REGION_DIVERGED and its mask bit; any other entry is left as it is. -/
def State.diverge (r : RegionIx) (s : State) : State :=
  if (s.region r).capturing then
    let s := (s.setRegionState r .diverged).dropSweep r
    { s with mgp := s.mgp.raiseDiverged r }
  else s

/-- An entry becomes RESYNCING and its index joins the tail of the resync queue (R8, R78). -/
def State.toResyncing (r : RegionIx) (s : State) : State :=
  let s := s.setRegionState r .resyncing
  { s with swp := { s.swp with queue := s.swp.queue ++ [r] } }

/-- The link is UP. -/
def State.linkUp (s : State) : Bool :=
  match s.lnc.link with
  | .up _ => true
  | _ => false

end Sys2Proof.Machine
end

