-- ==== Sys2Proof/Machine/Journal.lean ====
section
/-! DEFINITION. JNL's operations: the quantities derived from the list (R39, R41, R58), the space test (R42),
appending and coalescing (R44 to R47), sweep records (R50, R51), freeing and go-back (R53, R54), link DISABLED
and sessions (R55 to R57), the water marks (R59). -/

namespace Sys2Proof.Machine

/-! ### Derived quantities -/

/-- Data bytes in use: each record counts ceil(L/16) × 16; a VOID record has length 0 (R41). -/
def recordsBytes (rs : List Record) : Nat := (rs.map fun r => ceil16 r.length).sum

/-- Records in a state. -/
def countState (st : RecordState) (rs : List Record) : Nat :=
  rs.countP fun r => decide (r.state = st)

/-- Data bytes in use. -/
def Jnl.bytes (j : Jnl) : Nat := recordsBytes j.records

/-- Number of SENT records. -/
def Jnl.sentCount (j : Jnl) : Nat := countState .sent j.records

/-- Seq of the oldest record; next seq when the list is empty (R39). -/
def Jnl.oldest (j : Jnl) : Seq :=
  match j.records with
  | [] => j.nextSeq
  | r :: _ => r.seq

/-- The send point: oldest + number of SENT records (R39). -/
def Jnl.sendPoint (j : Jnl) : Seq := j.oldest + BitVec.ofNat 32 j.sentCount

/-- Occupancy in percent: the fuller of the two limits (R58). -/
def Jnl.occupancy (j : Jnl) : Nat :=
  max (100 * j.records.length / Config.journalRecords) (100 * j.bytes / Config.journalBytes)

/-! ### Water marks (R59) -/

/-- One evaluation of the water marks. -/
def State.evalMarks (s : State) : State :=
  if !s.jnl.latch && decide (s.jnl.highMark ≤ s.jnl.occupancy) then
    { s.raise .jnlHigh with jnl := { s.jnl with latch := true } }
  else if s.jnl.latch && decide (s.jnl.occupancy ≤ s.jnl.lowMark) then
    { s.raise .jnlLow with jnl := { s.jnl with latch := false } }
  else s

/-- Replace the record list; the marks are evaluated when the records or bytes change (R41, R59). -/
def State.setRecords (rs : List Record) (s : State) : State :=
  let t := { s with jnl := { s.jnl with records := rs } }
  if rs.length ≠ s.jnl.records.length ∨ recordsBytes rs ≠ s.jnl.bytes then t.evalMarks else t

/-! ### Capture (R42 to R47) -/

/-- Conditions 1 to 7 of R47 for coalescing a write into the newest record. -/
def coalesces (rec : Record) (r : RegionIx) (addr remote : Addr) (bytes : List (Byte × Bool)) : Bool :=
  rec.isOpen && decide (rec.region = r) && rec.mask.isNone && allEnabled bytes &&
    decide (addr.toNat = rec.localAddr.toNat + rec.length) &&
    decide (remote.toNat = rec.remoteAddr.toNat + rec.length) &&
    decide (rec.length + bytes.length ≤ Config.maxLength) &&
    decide (pageOffset rec.localAddr + (rec.length + bytes.length) ≤ Config.pageBytes)

/-- The record a write is coalesced into: the newest, when it meets every condition of R47. -/
def Jnl.coalesceInto (j : Jnl) (r : RegionIx) (addr remote : Addr) (bytes : List (Byte × Bool)) :
    Option Record :=
  j.records.getLast?.filter fun rec => coalesces rec r addr remote bytes

/-- Growth in counted bytes when a record grows by `len` bytes (R42). -/
def growth (rec : Record) (len : Nat) : Nat := ceil16 (rec.length + len) - ceil16 rec.length

/-- JNL's space test for capturing a write (R42). -/
def Jnl.captureFits (j : Jnl) (r : RegionIx) (addr remote : Addr) (bytes : List (Byte × Bool)) : Bool :=
  match j.coalesceInto r addr remote bytes with
  | some rec => decide (j.bytes + growth rec bytes.length ≤ Config.journalBytes)
  | none =>
    decide (j.records.length + 1 ≤ Config.journalRecords ∧
      j.bytes + ceil16 bytes.length ≤ Config.journalBytes)

/-- A record stops being open (R46). -/
def Record.close (r : Record) : Record := { r with isOpen := false }

/-- The record a captured write opens (R44). -/
def newRecord (seq : Seq) (r : RegionIx) (addr remote : Addr) (bytes : List (Byte × Bool)) : Record where
  seq := seq
  kind := .write
  region := r
  localAddr := addr
  remoteAddr := remote
  length := bytes.length
  mask := if allEnabled bytes then none else some (bytes.map (·.2))
  data := bytes.map (·.1)
  state := .pending
  sendCount := 0
  lastSent := none
  isOpen := true

/-- A record grown by a coalesced write (R47). -/
def Record.grow (rec : Record) (bytes : List (Byte × Bool)) : Record :=
  { rec with length := rec.length + bytes.length, data := rec.data ++ bytes.map (·.1) }

/-- The FILLING record of a chunk read (R45). -/
def sweepRecord (seq : Seq) (r : RegionIx) (addr remote : Addr) : Record where
  seq := seq
  kind := .sweep
  region := r
  localAddr := addr
  remoteAddr := remote
  length := Config.chunkBytes
  mask := none
  data := []
  state := .filling
  sendCount := 0
  lastSent := none
  isOpen := false

/-- Append a record: it takes next seq, and the record before it stops being open (R43, R46). -/
def State.appendRecord (rec : Record) (s : State) : State :=
  let t := s.setRecords (s.jnl.records.map Record.close ++ [rec])
  { t with jnl := { t.jnl with nextSeq := s.jnl.nextSeq + 1 } }

/-- The seq of the record that will hold a captured write: the coalesced record's, or next seq (R44, R47). -/
def Jnl.captureSeq (j : Jnl) (r : RegionIx) (addr remote : Addr) (bytes : List (Byte × Bool)) : Seq :=
  match j.coalesceInto r addr remote bytes with
  | some rec => rec.seq
  | none => j.nextSeq

/-- Capture a write whose space test passed: coalesce it or append a new record (R44, R47). -/
def State.capture (r : RegionIx) (addr remote : Addr) (bytes : List (Byte × Bool)) (s : State) : State :=
  match s.jnl.coalesceInto r addr remote bytes with
  | some rec => s.setRecords (s.jnl.records.dropLast ++ [rec.grow bytes])
  | none => s.appendRecord (newRecord s.jnl.nextSeq r addr remote bytes)

/-! ### Sweep records (R50, R51) -/

/-- The record with a seq that is in the list and FILLING. -/
def Jnl.fillingRecord (j : Jnl) (seq : Seq) : Option Record :=
  j.records.find? fun r => decide (r.seq = seq ∧ r.state = .filling)

/-- Change the FILLING record with a seq, if the list has it. -/
def updateFilling (seq : Seq) (f : Record → Record) (rs : List Record) : List Record :=
  rs.map fun r => if r.seq = seq ∧ r.state = .filling then f r else r

/-- Install read data: the record becomes PENDING (R50). -/
def Record.fill (data : List Byte) (r : Record) : Record := { r with data := data, state := .pending }

/-- Convert a FILLING record to VOID: length 0, no data, PENDING (R51). -/
def Record.toVoid (r : Record) : Record := { r with kind := .void, length := 0, data := [], state := .pending }

/-! ### Freeing, go-back, link DISABLED, sessions (R53 to R57) -/

/-- A SENT record becomes PENDING again; it keeps its send count and last sent time (R54, R55). -/
def Record.revert (r : Record) : Record :=
  if r.state = .sent then { r with state := .pending } else r

/-- The records left once those whose seq precedes R are removed from the front (R53). -/
def freeBefore (R : Seq) (rs : List Record) : List Record := rs.dropWhile fun r => precedes r.seq R

/-- R lies within [oldest, send point] (R53). -/
def Jnl.ackInRange (j : Jnl) (R : Seq) : Bool := within R j.oldest j.sendPoint

/-- A go-back to R: remove what precedes R, revert every SENT record, count GO_BACKS (R54). -/
def State.goBack (R : Seq) (s : State) : State :=
  (s.setRecords ((freeBefore R s.jnl.records).map Record.revert)).count .goBacks

/-- An rcv_ack R of a header without NAK (R53). -/
def State.takeRcvAck (R : Seq) (s : State) : State :=
  if s.jnl.ackInRange R then s.setRecords (freeBefore R s.jnl.records) else s.raise .linkProtocol

/-- An rcv_ack R of a header with NAK (R54). -/
def State.takeNak (R : Seq) (s : State) : State :=
  if s.jnl.ackInRange R then s.goBack R else s.raise .linkProtocol

/-- Entry of the link to DISABLED: every SENT record becomes PENDING (R55). -/
def State.revertSent (s : State) : State := s.setRecords (s.jnl.records.map Record.revert)

/-- JNL at a NEW decision (R56). -/
def State.journalNew (s : State) : State :=
  { s with jnl := { s.jnl with records := [], nextSeq := 0, latch := false } }

/-- A record kept by a resume: send count 0, and PENDING if it was SENT (R57). -/
def Record.resumed (r : Record) : Record := { r.revert with sendCount := 0 }

/-- JNL at a RESUME with the peer's E (R57); the marks are evaluated after it (R59). -/
def State.journalResume (peerE : Seq) (s : State) : State :=
  let t := { s with jnl := { s.jnl with
    records := (freeBefore peerE s.jnl.records).map Record.resumed } }
  t.evalMarks

/-! ### Takes (R52, R100, R101) -/

/-- A record taken into a DATA frame (R52). -/
def Record.take (now : Nat) (r : Record) : Record :=
  { r with state := .sent, sendCount := r.sendCount + 1, lastSent := some now, isOpen := false }

/-- Make the first `k` records from the send point SENT (R52, R103). -/
def takeRecords (now sent k : Nat) (rs : List Record) : List Record :=
  rs.take sent ++ ((rs.drop sent).take k).map (Record.take now) ++ rs.drop (sent + k)

end Sys2Proof.Machine
end

