-- ==== Sys2Proof/Machine/Holds.lean ====
section
/-! DEFINITION. HLD's operations: making a hold (R63), the response table (R64), local status (R65), apl_ack
(R66), the deadline with FAIL and DEGRADE (R67 to R69), the pass of a NEW session (R72). -/

namespace Sys2Proof.Machine

/-- The response a hold's state and local status fix, none while it waits (the table of R64). -/
def Hold.verdict (h : Hold) : Option BusStatus :=
  match h.state, h.localStatus with
  | _, none => none
  | _, some .fault => some .fault
  | .openHold, some .okay => none
  | .remoteMet, some .okay => some .okay
  | .failed, some .okay => some .fault
  | .waived, some .okay => some .okay

/-- The upstream response of a hold whose response is fixed: status and no data (R64). -/
def Hold.response (h : Hold) : Option UpResponse := h.verdict.map fun st => ⟨h.tag, st, []⟩

/-- Form every response that is fixed: it goes to UPI, and its entry leaves the table (R64). -/
def State.formResponses (s : State) : State :=
  { s with
    upi := { s.upi with responses := s.upi.responses ++ s.hld.holds.filterMap Hold.response }
    hld := { holds := s.hld.holds.filter fun h => h.verdict.isNone } }

/-- Change every entry of the hold table. -/
def State.mapHolds (f : Hold → Hold) (s : State) : State := { s with hld := { holds := s.hld.holds.map f } }

/-- The entry a captured SYNC write gets at its grant (R63). -/
def newHold (tag : Tag) (r : RegionIx) (seq : Seq) (f : RegionFields) (now : Nat) : Hold where
  tag := tag
  region := r
  seq := seq
  action := f.action
  localStatus := none
  state := .openHold
  deadline := now + f.timeout

/-- Add an entry to the hold table (R63). -/
def State.addHold (h : Hold) (s : State) : State := { s with hld := { holds := s.hld.holds ++ [h] } }

/-- The local status of a held write arrives (R65). -/
def State.holdLocalStatus (tag : Tag) (st : BusStatus) (s : State) : State :=
  (s.mapHolds fun h => if h.tag = tag then { h with localStatus := some st } else h).formResponses

/-- An apl_ack P meets the remote condition of a hold (R66). -/
def Hold.metBy (p nextSeq : Seq) (h : Hold) : Bool :=
  decide (h.state = .openHold) && atOrAfter p (h.seq + 1) && atOrBefore p nextSeq

/-- HLD takes an apl_ack (R66). -/
def State.holdsAplAck (p : Seq) (s : State) : State :=
  (s.mapHolds fun h => if h.metBy p s.jnl.nextSeq then { h with state := .remoteMet } else h).formResponses

/-- The hold with a tag. -/
def State.holdOf (s : State) (tag : Tag) : Option Hold := s.hld.holds.find? fun h => decide (h.tag = tag)

/-- FAIL: the timed-out OPEN entry becomes FAILED (R68). -/
def State.holdFail (tag : Tag) (s : State) : State :=
  (s.mapHolds fun h => if h.tag = tag ∧ h.state = .openHold then { h with state := .failed } else h).formResponses

/-- DEGRADE: the region's mode becomes ASYNC, and every OPEN entry of the region, the timed-out one included,
becomes WAIVED (R69). -/
def State.holdDegrade (r : RegionIx) (s : State) : State :=
  ((s.setMode r .async).mapHolds fun h =>
    if h.region = r ∧ h.state = .openHold then { h with state := .waived } else h).formResponses

/-- The deadline of the entry with a tag expires (R67): an OPEN entry raises SYNC_TIMEOUT, counts
SYNC_TIMEOUTS and acts by its action; any other state discards the expiry. -/
def State.expireHold (tag : Tag) (s : State) : State :=
  match s.holdOf tag with
  | none => s
  | some h =>
    if h.state = .openHold then
      let t := (s.raise .syncTimeout).count .syncTimeouts
      match h.action with
      | .fail => t.holdFail tag
      | .degrade => t.holdDegrade h.region
    else s

/-- Order of the pass of R72: earlier deadline first, then lower tag. -/
def Hold.before (a b : Hold) : Bool :=
  decide (a.deadline < b.deadline ∨ (a.deadline = b.deadline ∧ a.tag.val < b.tag.val))

/-- Insert an entry at its place in the order of the pass. -/
def insertHold (h : Hold) : List Hold → List Hold
  | [] => [h]
  | k :: ks => if h.before k then h :: k :: ks else k :: insertHold h ks

/-- Entries in the order of the pass. -/
def sortHolds : List Hold → List Hold
  | [] => []
  | h :: hs => insertHold h (sortHolds hs)

/-- HLD at a NEW decision: the OPEN entries are expired in order of deadline, then tag; an entry an earlier
DEGRADE has waived is passed by (R72). -/
def State.holdsNew (s : State) : State :=
  (sortHolds (s.hld.holds.filter fun h => decide (h.state = .openHold))).foldl
    (fun t h => t.expireHold h.tag) s

end Sys2Proof.Machine
end

