-- ==== Sys2Proof/Machine/Sweep.lean ====
section
/-! DEFINITION. SWP's operations: taking a region (R81), readiness (R82), the chunk grant (R83), the responses to
chunk reads (R84, R85, R92), completion (R86), a NEW session (R90). -/

namespace Sys2Proof.Machine

/-- Outstanding entries charged to a requester (R24). -/
def Owner.requester : Owner → Requester
  | .up _ _ => .up
  | .apl _ => .apl
  | .swp _ => .swp

/-- The kind of an outstanding transaction (R24): a READ, or else a WRITE. -/
def Owner.isRead : Owner → Bool
  | .up _ (.read _) => true
  | .up _ _ => false
  | .apl _ => false
  | .swp _ => true

/-- Number of outstanding entries charged to a requester, abandoned ones included (R24, R34, R36). -/
def Dnp.charged (d : Dnp) (q : Requester) : Nat :=
  d.outstanding.countP fun e => decide (e.owner.requester = q)

/-- The context of a sweep that starts (R81). -/
def SweepCtx.start (r : RegionIx) (f : RegionFields) : SweepCtx where
  region := r
  nextChunk := f.basePage * Config.pageBytes
  endAddr := (f.basePage + f.size) * Config.pageBytes
  ownReads := []
  lastSeq := none

/-- The engine in IDLE takes the head of the resync queue while the link is UP (R81). -/
def State.sweepTake (s : State) : State :=
  match s.swp.engine, s.swp.queue with
  | .idle, r :: rest =>
    if s.linkUp then
      { s with swp := { queue := rest, engine := .reading (SweepCtx.start r (s.region r).fields) } }
    else s
  | _, _ => s

/-- The sweep reserve: the chunk's record leaves reserve_desc descriptors and reserve_bytes bytes free (R82). -/
def Jnl.reserveFits (j : Jnl) : Bool :=
  decide (j.records.length + j.reserveDesc + 1 ≤ Config.journalRecords ∧
    j.bytes + j.reserveBytes + Config.chunkBytes ≤ Config.journalBytes)

/-- SWP is a ready requester (R82). -/
def State.swpReady (s : State) : Bool :=
  match s.swp.engine with
  | .reading c =>
    decide (c.nextChunk < c.endAddr) && s.linkUp && decide ((s.region c.region).state = .resyncing) &&
      decide (s.dnp.charged .swp < Config.swpLimit) && s.jnl.reserveFits
  | _ => false

/-- The sweep context after the grant of its next chunk with a seq (R83). -/
def SweepCtx.granted (c : SweepCtx) (seq : Seq) : SweepCtx :=
  { c with
    ownReads := c.ownReads ++ [seq]
    nextChunk := c.nextChunk + Config.chunkBytes
    lastSeq := if c.nextChunk + Config.chunkBytes = c.endAddr then some seq else c.lastSeq }

/-- Chunk read data for the record with a seq: installed if that record is in the list and FILLING, else
dropped (R50). -/
def State.fillRecord (seq : Seq) (data : List Byte) (s : State) : State :=
  s.setRecords (updateFilling seq (Record.fill data) s.jnl.records)

/-- A chunk read FAULT for the record with a seq: it becomes VOID if it is in the list and FILLING (R51). -/
def State.voidRecord (seq : Seq) (s : State) : State :=
  s.setRecords (updateFilling seq Record.toVoid s.jnl.records)

/-- The context once an own read has answered OKAY (R84). -/
def SweepCtx.answered (c : SweepCtx) (seq : Seq) : SweepCtx :=
  { c with ownReads := c.ownReads.filter fun q => decide (q ≠ seq) }

/-- READING ends when every chunk has been granted and every own read has answered (R84). -/
def SweepCtx.engine (c : SweepCtx) : SweepEngine :=
  if c.nextChunk = c.endAddr ∧ c.ownReads = [] then .draining c else .reading c

/-- A response to one of the current sweep's own reads (R84, R85). -/
def State.ownReadAnswer (c : SweepCtx) (seq : Seq) (st : BusStatus) (data : List Byte) (s : State) : State :=
  match st with
  | .okay =>
    let t := s.fillRecord seq data
    { t with swp := { t.swp with engine := (c.answered seq).engine } }
  | .fault =>
    let t := (s.voidRecord seq).raise .sweepFault
    ({ t with swp := { t.swp with engine := .reading (c.answered seq) } }).diverge c.region

/-- A response to a chunk read that is not among the current sweep's own reads (R92). -/
def State.otherReadAnswer (seq : Seq) (st : BusStatus) (data : List Byte) (s : State) : State :=
  match s.jnl.fillingRecord seq, st with
  | none, _ => s
  | some _, .okay => s.fillRecord seq data
  | some _, .fault => (s.voidRecord seq).raise .sweepFault

/-- A response to a chunk read whose entry is not abandoned (R28, R84, R85, R92). -/
def State.sweepAnswer (seq : Seq) (st : BusStatus) (data : List Byte) (s : State) : State :=
  match s.swp.engine with
  | .reading c =>
    if seq ∈ c.ownReads then s.ownReadAnswer c seq st data else s.otherReadAnswer seq st data
  | _ => s.otherReadAnswer seq st data

/-- The sweep of a DRAINING engine is complete for an apl_ack P (R86). -/
def SweepCtx.completedBy (c : SweepCtx) (p nextSeq : Seq) : Bool :=
  c.lastSeq.any fun l => atOrAfter p (l + 1) && atOrBefore p nextSeq

/-- SWP takes an apl_ack (R86): completion makes the region ACTIVE if it is RESYNCING (R10), raises RESYNC_DONE
and leaves the engine IDLE. -/
def State.sweepAplAck (p : Seq) (s : State) : State :=
  match s.swp.engine with
  | .draining c =>
    if c.completedBy p s.jnl.nextSeq then
      let t := if (s.region c.region).state = .resyncing then s.setRegionState c.region .active else s
      { t.raise .resyncDone with swp := { t.swp with engine := .idle } }
    else s
  | _ => s

/-- Step 1 of a NEW decision: every SOURCE entry in ACTIVE or RESYNCING becomes DIVERGED (R13). -/
def State.regionsNewStep1 (s : State) : State :=
  (List.finRange 16).foldl (fun t r => t.diverge r) s

/-- SWP between the steps: any sweep is aborted and the resync queue is cleared (R90). -/
def State.sweepNew (s : State) : State := { s with swp := { queue := [], engine := .idle } }

/-- Step 2: a SOURCE entry now DIVERGED with auto-resync ON becomes RESYNCING (R13). -/
def State.autoResync (r : RegionIx) (s : State) : State :=
  let e := s.region r
  if e.fields.direction = .source ∧ e.state = .diverged ∧ e.fields.autoResync = true then s.toResyncing r
  else s

/-- Step 2 over all entries in ascending index order (R13). -/
def State.regionsNewStep2 (s : State) : State :=
  (List.finRange 16).foldl (fun t r => t.autoResync r) s

end Sys2Proof.Machine
end

