-- ==== Sys2Proof/Machine/Apply.lean ====
section
/-! DEFINITION. APL's operations: the record at the issue point and its classification (R143, R144), readiness
and the write formed (R145), completion (R146, R150), the advance of A (R147). -/

namespace Sys2Proof.Machine

/-- Data bytes of an apply queue, counted as the journal's (R142). -/
def applyBytesOf (q : List ApplyRec) : Nat := (q.map fun r => ceil16 r.length).sum

/-- The record at the issue point (R143). -/
def Apl.atIssue (a : Apl) : Option ApplyRec := a.queue.find? fun r => decide (r.seq = a.issue)

/-- Set the apply state of the record with a seq. -/
def setApplyState (seq : Seq) (st : ApplyState) (q : List ApplyRec) : List ApplyRec :=
  q.map fun r => if r.seq = seq then { r with state := st } else r

/-- The record at the issue point leaves it in a state, and the issue point moves on (R143 to R145). -/
def Apl.passIssue (st : ApplyState) (a : Apl) : Apl :=
  { a with queue := setApplyState a.issue st a.queue, issue := a.issue + 1 }

/-- What the record at the issue point is (R143). -/
inductive IssueClass where
  | empty
  | void
  | unmapped
  | mapped (rec : ApplyRec) (r : RegionIx)
  deriving DecidableEq, Repr

/-- Classify the record at the issue point against the table as it stands (R143). -/
def State.classifyIssue (s : State) : IssueClass :=
  match s.apl.atIssue with
  | none => .empty
  | some rec =>
    if rec.kind = .void then .void
    else
      match s.lookupTarget rec.remoteAddr with
      | none => .unmapped
      | some r => .mapped rec r

/-- Finish the record at the issue point if it is VOID or unmapped (R144). -/
def State.finishAtIssue (s : State) : State :=
  match s.classifyIssue with
  | .void => { s with apl := s.apl.passIssue .done }
  | .unmapped => { (s.count .unmapped).raise .applyUnmapped with apl := s.apl.passIssue .done }
  | .empty => s
  | .mapped _ _ => s

/-- Finish records at the issue point until one is mapped or none is left (R143): at most `n` of them. -/
def finishRun : Nat → State → State
  | 0, s => s
  | n + 1, s => finishRun n s.finishAtIssue

/-- Advance A over the unbroken run of DONE records at the front, removing them (R147). -/
def Apl.advance (a : Apl) : Apl :=
  let run := a.queue.takeWhile fun r => decide (r.state = .done)
  { a with queue := a.queue.drop run.length, applied := a.applied + BitVec.ofNat 32 run.length }

/-- APL at the end of an event: records finished at issue, then the advance of A (R143, R147). -/
def State.applyRun (s : State) : State :=
  let t := finishRun s.apl.queue.length s
  { t with apl := t.apl.advance }

/-- APL is a ready requester: a mapped record at the issue point and fewer than 4 APL entries (R25, R145). -/
def State.aplReady (s : State) : Bool :=
  match s.classifyIssue with
  | .mapped _ _ => decide (s.dnp.charged .apl < Config.aplLimit)
  | _ => false

/-- The bytes and enables of an apply write (R145). -/
def ApplyRec.writeBytes (rec : ApplyRec) : List (Byte × Bool) :=
  match rec.mask with
  | some flags => rec.data.zip flags
  | none => rec.data.map fun b => (b, true)

/-- Count an apply write's completion: APPLIED of the region found at issue on OKAY, APPLY_FAULT and
APPLY_FAULTS on FAULT (R146, R150). -/
def State.countApply (e : AplEntry) (st : BusStatus) (s : State) : State :=
  match st with
  | .okay => s.countApplied e.region
  | .fault => (s.raise .applyFault).count .applyFaults

/-- The response to an apply write (R146; R150 for an orphaned one, which makes no record DONE). -/
def State.applyAnswer (itag : ITag) (st : BusStatus) (s : State) : State :=
  match s.apl.inFlight.find? fun e => decide (e.itag = itag) with
  | none => s
  | some e =>
    let t := s.countApply e st
    { t with apl := { t.apl with
        inFlight := t.apl.inFlight.filter fun f => decide (f.itag ≠ itag)
        queue := if e.orphaned then t.apl.queue else setApplyState e.seq .done t.apl.queue } }

/-- APL at a NEW decision (R150). -/
def Apl.newSession (a : Apl) : Apl :=
  { applied := 0, queue := [], issue := 0, inFlight := a.inFlight.map fun e => { e with orphaned := true } }

end Sys2Proof.Machine
end

