-- ==== Sys2Proof/Machine/Frames.lean ====
section
/-! DEFINITION. FTX's operations: what it has to send (R100), the choice of records (R101), the retry limit
(R102), the frames it builds (R95 to R99, R103, R106, R107), the pending NAK (R104), the end of a frame
(R105). -/

namespace Sys2Proof.Machine

/-! ### What FTX has to send (R100) -/

/-- A list of records from the send point on has a sendable record, with `sent` records SENT: its first is
PENDING and the window is not full (R100). -/
def sendableAt (window sent : Nat) (fromPoint : List Record) : Bool :=
  match fromPoint with
  | [] => false
  | r :: _ => decide (r.state = .pending) && decide (sent < window)

/-- The records from the send point on (R39, R101). -/
def Jnl.fromSendPoint (j : Jnl) : List Record := j.records.drop j.sentCount

/-- FTX has a sendable record (R100). -/
def State.sendable (s : State) : Bool :=
  sendableAt s.lnc.params.window s.jnl.sentCount s.jnl.fromSendPoint

/-- FTX has something to send: a sendable record or a pending NAK (R100). -/
def State.somethingToSend (s : State) : Bool := s.sendable || s.ftx.pendingNak.isSome

/-! ### The choice of records (R101) -/

/-- Select from the send point on, with `sent` records SENT, `n` records of `size` encoded bytes selected
already; stop at the first record for which a condition of R101 fails. -/
def selectRecords (window sent : Nat) : Nat → Nat → List Record → List Record
  | _, _, [] => []
  | n, size, r :: rs =>
    if r.state = .pending ∧ n < Config.frameRecords ∧ sent + n + 1 ≤ window ∧
        size + encodedSize r + 4 ≤ Config.maxBody then
      r :: selectRecords window sent (n + 1) (size + encodedSize r) rs
    else []

/-- The selection at a frame opportunity (R101). -/
def State.selection (s : State) : List Record :=
  selectRecords s.lnc.params.window s.jnl.sentCount 0 0 s.jnl.fromSendPoint

/-- Encoded bytes of a selection. -/
def encodedTotal (rs : List Record) : Nat := (rs.map encodedSize).sum

/-- FTX would still have something to send after this frame's take; the NAK this frame carries does not count
(R113). -/
def State.sendableAfter (s : State) : Bool :=
  let k := s.selection.length
  sendableAt s.lnc.params.window (s.jnl.sentCount + k) (s.jnl.fromSendPoint.drop k)

/-! ### Building frames -/

/-- The frame mark (12_formats, 12.1). -/
def frameMark : List Byte := [0xD3, 0x5C]

/-- The header of a frame built now (R96): E as rcv_ack and A as apl_ack (R97). -/
def State.header (s : State) (type : FrameType) (turn nak fresh reply : Bool) (cls count : Nat) (first : Seq) :
    Header where
  type := some type
  turn := turn
  nak := nak
  fresh := fresh
  reply := reply
  lengthClass := cls
  reason := if nak then s.ftx.pendingNak else none
  count := count
  firstSeq := first
  rcvAck := s.frx.expected
  aplAck := s.apl.applied

/-- Put a frame on the line (R94, R95): mark, header, body. -/
def State.transmit (h : Header) (type : FrameType) (body : List Byte) (s : State) : State :=
  let f : TxFrame :=
    { type := type, turn := h.turn, nak := h.nak, reply := h.reply, start := s.now,
      bytes := frameMark ++ encodeHeader h ++ body }
  { s with ftx := { s.ftx with frame := some f } }

/-- The header of a DATA frame with a selection (R96, R103). -/
def State.dataHeader (s : State) (turn : Bool) (sel : List Record) : Header :=
  s.header .data turn s.ftx.pendingNak.isSome false false (lengthClassFor (encodedTotal sel + 4)) sel.length
    s.jnl.sendPoint

/-- Complete a DATA frame (R103): the records are taken and the frame starts. Its body encodes the records as
they stand at the take (R99). -/
def State.buildData (turn : Bool) (s : State) : State :=
  let sel := s.selection
  let h := s.dataHeader turn sel
  let body := buildBody h.lengthClass (sel.flatMap fun r => encodeRecord r.wire)
  (s.setRecords (takeRecords s.now s.jnl.sentCount sel.length s.jnl.records)).transmit h .data body

/-- Build a CTRL frame (R106). -/
def State.buildCtrl (turn : Bool) (s : State) : State :=
  s.transmit (s.header .ctrl turn s.ftx.pendingNak.isSome false false 0 0 0) .ctrl []

/-- The training fields of a HELLO (R107). -/
def State.helloBody (s : State) : HelloBody where
  role := s.lnc.params.role
  expected := s.frx.expected
  nextSeq := s.jnl.nextSeq
  oldest := s.jnl.oldest
  window := s.lnc.params.window

/-- Build a HELLO, with REPLY or without (R107). -/
def State.buildHello (reply : Bool) (s : State) : State :=
  s.transmit (s.header .hello false false s.lnc.fresh reply 0 0 0) .hello
    (buildBody 0 (encodeHello s.helloBody))

/-- Build a START carrying a decision (R107). -/
def State.buildStart (d : Decision) (s : State) : State :=
  s.transmit (s.header .start true false false false 0 0 0) .start (buildBody 0 [d.code])

/-! ### The pending NAK and frame ends (R104, R105) -/

/-- FRX raises a NAK: it becomes the pending one, replacing any before it (R104, R136). -/
def State.raiseNak (reason : NakReason) (s : State) : State :=
  { s with ftx := { s.ftx with pendingNak := some reason } }

/-- Cut the frame in progress short (R105). -/
def State.cutFrame (s : State) : State := { s with ftx := { s.ftx with frame := none } }

/-- The least time a frame of these bytes takes on the line, in bit times (R98). -/
def TxFrame.lineBits (f : TxFrame) : Nat := f.bytes.length * 8

/-- FTX's part of a frame's completion (R105): FRAMES_OUT, and a carried NAK is cleared with NAK_SENT. -/
def State.finishFrame (f : TxFrame) (s : State) : State :=
  let t := s.cutFrame.count .framesOut
  if f.nak then { t.count .nakSent with ftx := { t.ftx with pendingNak := none } } else t

end Sys2Proof.Machine
end

