-- ==== Sys2Proof/Machine/Link.lean ====
section
/-! DEFINITION. LNC's operations: link states (R152 to R156), turn sub-states (R109 to R122), training (R158 to
R165), and the session decision with every block's part in it (R161, R162). -/

namespace Sys2Proof.Machine

/-! ### Time -/

/-- Time has reached at least `t` on the µs timebase. -/
def State.reach (t : Nat) (s : State) : State := { s with now := max s.now t }

/-- When a timer expires (00_scope, Time): not before its start plus its length. -/
def Timer.due (t : Timer) : Nat := t.start + t.length

/-- When a guard timer expires, counted on the µs timebase. -/
def GuardTimer.due (g : GuardTimer) : Nat := g.start + bitsToUs g.bits

/-! ### Setting the link state -/

/-- Set the link state. -/
def State.setLink (l : Link) (s : State) : State := { s with lnc := { s.lnc with link := l } }

/-- The line is idle: no peer frame is on it, detected or met in a collision, and this node does not drive it
(R159). -/
def State.lineIdle (s : State) : Bool := !s.lnc.lineBusy && !s.lnc.lineMet && s.ftx.frame.isNone

/-- A peer frame whose mark is detected is on the line: the mark is the first thing on an idle line (12.1), so a
frame met in a collision has ended. -/
def State.lineTaken (s : State) : State := { s with lnc := { s.lnc with lineBusy := true, lineMet := false } }

/-- A peer frame that met this node's own, so that its mark was not detected, is on the line (R116, R121). -/
def State.lineContested (s : State) : State := { s with lnc := { s.lnc with lineMet := true } }

/-- The line returns to idle: no peer frame is on it (R117, R159). -/
def State.lineReleased (s : State) : State := { s with lnc := { s.lnc with lineBusy := false, lineMet := false } }

/-- The training context at an entry to TRAINING (R159, R160, R164): the training timer starts, and the primary
asks for a HELLO. -/
def Lnc.trainingStart (l : Lnc) (now : Nat) : Training where
  phase := match l.params.role with
    | .primary => .calling
    | .secondary => .waiting
  guard := none
  hello := none
  limit := ⟨now, l.params.trainingLimit * 1000⟩
  storedE := none
  decision := none
  want := match l.params.role with
    | .primary => some .hello
    | .secondary => none

/-- Entry to TRAINING (R159, R160, R164). -/
def State.enterTraining (s : State) : State := s.setLink (.training (s.lnc.trainingStart s.now))

/-- The link state after an entry to DOWN (R156): DOWN with the retrain timer running; with a retrain delay of 0
the link goes on to TRAINING in the same event. -/
def Lnc.fallen (l : Lnc) (now : Nat) : Link :=
  if l.params.retrainDelay = 0 then .training (l.trainingStart now)
  else .down ⟨now, l.params.retrainDelay * 1000⟩

/-- What every departure from TRAINING or UP does: a frame in progress is cut short (R105), the pending NAK is
cleared (R94), a frame in reception is abandoned (R137), and an unconfirmed session sets FRESH (R165). -/
def State.dropLine (s : State) : State :=
  { s with
    ftx := { pendingNak := none, frame := none }
    frx := { s.frx with rx := none }
    lnc := { s.lnc with fresh := s.lnc.fresh || s.lnc.unconfirmed, unconfirmed := false } }

/-- The link is in TRAINING or UP. -/
def Link.joined : Link → Bool
  | .training _ => true
  | .up _ => true
  | _ => false

/-- Entry to DOWN from UP or TRAINING with a cause, which LINK_DOWN reports (R156). In DOWN and DISABLED a cause
changes nothing. -/
def State.goDown (c : DownCause) (s : State) : State :=
  if s.lnc.link.joined then
    let t := s.dropLine.raise .linkDown
    { t with lnc := { t.lnc with link := s.lnc.fallen s.now, lastCause := some c } }
  else s

/-- Entry to DISABLED (R154): from UP with LINK_DOWN and cause DISABLED, from TRAINING with the cause only, from
DOWN with neither; JNL reverts every SENT record (R55). -/
def State.goDisabled (s : State) : State :=
  match s.lnc.link with
  | .disabled => s
  | .up _ =>
    let t := (s.dropLine.raise .linkDown).revertSent
    { t with lnc := { t.lnc with link := .disabled, lastCause := some .disabled } }
  | .training _ =>
    let t := s.dropLine.revertSent
    { t with lnc := { t.lnc with link := .disabled, lastCause := some .disabled } }
  | .down _ => s.revertSent.setLink .disabled

/-! ### Turn sub-states (07) -/

/-- GUARD, with a guard of some bit times (R111). -/
def Turn.toGuard (now bits : Nat) (u : Turn) : Turn :=
  { u with sub := .guard, guard := some ⟨now, bits⟩, dwell := none, silence := .stopped }

/-- LISTEN, with the silence timer started from the full silence value (R117). -/
def Turn.toListen (now silence : Nat) (u : Turn) : Turn :=
  { u with sub := .listen, guard := none, dwell := none, silence := .running ⟨now, silence⟩ }

/-- LISTEN while a peer frame is on the line: the silence timer is held (R117). -/
def Turn.toListenHeld (u : Turn) : Turn :=
  { u with sub := .listen, guard := none, dwell := none, silence := .held }

/-- The turn state at an entry to UP, before its sub-state is entered: frames this turn and both consecutive
counts are 0 (R109, R110). -/
def Turn.fresh : Turn where
  sub := .listen
  guard := none
  dwell := none
  silence := .stopped
  frames := 0
  turnSent := false
  missed := 0
  collisions := 0

/-- Entry to UP with a turn state; LINK_UP is raised (R163). -/
def State.goUp (u : Turn) (s : State) : State := (s.setLink (.up u)).raise .linkUp

/-- The ack check at a turn start (R112): a go-back to oldest if the oldest record is SENT and its ack timeout
has passed. -/
def State.ackCheck (s : State) : State :=
  match s.jnl.records with
  | [] => s
  | r :: _ =>
    match r.state, r.lastSent with
    | .sent, some t => if t + s.lnc.params.ackTimeout ≤ s.now then s.goBack s.jnl.oldest else s
    | _, _ => s

/-- Entry to HOLD: the turn start (R112), then the dwell timer if FTX has nothing to send (R114). -/
def State.enterHold (u : Turn) (s : State) : State :=
  let t := s.ackCheck
  t.setLink (.up { u with
    sub := .hold
    guard := none
    silence := .stopped
    frames := 0
    turnSent := false
    dwell := if t.somethingToSend then none else some ⟨s.now, s.lnc.params.dwell⟩ })

/-- A frame of this turn starts, marked TURN or not (R113). -/
def Turn.frameStarted (turn : Bool) (u : Turn) : Turn :=
  { u with frames := u.frames + 1, dwell := none, turnSent := u.turnSent || turn }

/-! ### The session decision (R161, R162) -/

/-- The primary's decision from its own figures and the REPLY's (R161). -/
def State.sessionDecision (s : State) (replyFresh : Bool) (b : HelloBody) : Decision :=
  if s.lnc.fresh || replyFresh || !within b.expected s.jnl.oldest s.jnl.nextSeq ||
      !within s.frx.expected b.oldest b.nextSeq then
    .newSession
  else .resume

/-- DNP at a NEW decision: APL and SWP entries are abandoned (R36). -/
def OutEntry.newSession (e : OutEntry) : OutEntry :=
  match e.owner with
  | .up _ _ => e
  | .apl _ => { e with abandoned := true }
  | .swp _ => { e with abandoned := true }

/-- Every block's part in a NEW decision (R162): HLD (R72), RGT and SWP (R13, R90), JNL (R56), FRX (R126), APL
(R150), DNP (R36). -/
def State.blocksNew (s : State) : State :=
  let t := s.holdsNew.regionsNewStep1.sweepNew.regionsNewStep2.journalNew
  { t with
    frx := { t.frx with expected := 0 }
    apl := t.apl.newSession
    dnp := { t.dnp with outstanding := t.dnp.outstanding.map OutEntry.newSession } }

/-- Apply a session decision; `peerE` is the peer's E that a RESUME frees by (R57, R162). -/
def State.applySession (d : Decision) (peerE : Seq) (s : State) : State :=
  let t := { s with lnc := { s.lnc with fresh := false } }
  match d with
  | .newSession => ((t.count .sessionsNew).raise .sessionNew).blocksNew
  | .resume => (t.count .sessionsResumed).journalResume peerE

end Sys2Proof.Machine
end

