-- ==== Sys2Proof/Machine/Ops.lean ====
section
/-! DEFINITION. The operations every command shares: acceptance of presented requests (R19), the STALL wait of the
intake head (R21 to R23), the arbiter (R25), internal tags (R24, R26), the responses ready for the host (R32), and
`settle`, the reactions that follow an event at once (assumption log 15). -/

namespace Sys2Proof.Machine

/-! ### Intake (R19, R20) -/

/-- UPI accepts a presented request: room, tag not in flight, host bus reset not asserted (R19). -/
def Upi.accepts (u : Upi) (r : UpRequest) : Bool :=
  decide (u.intake.length < Config.intakeDepth) && decide (r.tag ∉ u.inFlight) && !u.hostReset

/-- Accept a request: it joins the tail of the intake queue and its tag is in flight (R19, R20). -/
def Upi.accept (r : UpRequest) (u : Upi) : Upi :=
  { u with intake := u.intake ++ [r], inFlight := u.inFlight ++ [r.tag] }

/-- Accept presented requests in order, up to the first that is not accepted: it holds back those behind it
(R19). -/
def Upi.acceptFrom : List UpRequest → Upi → Upi
  | [], u => { u with presented := [] }
  | r :: rs, u => if u.accepts r then acceptFrom rs (u.accept r) else { u with presented := r :: rs }

/-- UPI accepts what it can of what the bus presents (R19). -/
def State.acceptPresented (s : State) : State := { s with upi := s.upi.acceptFrom s.upi.presented }

/-- A response becomes ready for the upstream port (R32). -/
def State.respond (tag : Tag) (st : BusStatus) (data : List Byte) (s : State) : State :=
  { s with upi := { s.upi with responses := s.upi.responses ++ [⟨tag, st, data⟩] } }

/-- The head leaves the intake queue, and its stall timer is discarded (R20, R22). -/
def State.popHead (s : State) : State :=
  { s with upi := { s.upi with intake := s.upi.intake.tail, stall := none } }

/-! ### The STALL wait (R21 to R23) -/

/-- The region in which a request is in STALL, none when it is not (R21). -/
def State.stallOf (s : State) (r : UpRequest) : Option RegionIx :=
  match r.body with
  | .read _ => none
  | .write bytes =>
    if malformed r || !anyEnabled bytes then none
    else
      (s.lookup (pageOf r.address)).filter fun x =>
        (s.region x).capturing && decide ((s.region x).fields.fullPolicy = .stall) &&
          !s.jnl.captureFits x r.address (remoteOf r.address (s.region x).fields.displacement) bytes

/-- The region in which the intake head is in STALL, none when it is not or there is no head (R21). -/
def State.stallRegion (s : State) : Option RegionIx :=
  match s.upi.intake with
  | [] => none
  | r :: _ => s.stallOf r

/-- What UPI does when the stall timer has expired and the head is in STALL in a region (R23). -/
def State.stallActions (x : RegionIx) (s : State) : State :=
  ((s.diverge x).raise .stallExpired).count .stalls

/-- The head that enters STALL starts the stall timer; one that enters it again with its timer expired is acted
on at once (R22, R23). -/
def State.stallCheck (s : State) : State :=
  match s.stallRegion with
  | none => s
  | some x =>
    match s.upi.stall with
    | none =>
      let t : StallTimer := ⟨s.now, (s.region x).fields.timeout, false⟩
      { s with upi := { s.upi with stall := some t } }
    | some t => if t.expired then s.stallActions x else s

/-! ### The arbiter (R24, R25) -/

/-- UP is a ready requester (R21). -/
def State.upReady (s : State) : Bool :=
  match s.upi.intake with
  | [] => false
  | r :: _ => !malformed r && decide (s.dnp.charged .up < Config.upLimit) && s.stallRegion.isNone

/-- A requester is ready (R25). -/
def State.ready (s : State) : Requester → Bool
  | .up => s.upReady
  | .apl => s.aplReady
  | .swp => s.swpReady

/-- The requester after one in the rotation UP, APL, SWP (R25). -/
def Requester.next : Requester → Requester
  | .up => .apl
  | .apl => .swp
  | .swp => .up

/-- The arbiter's choice among the ready requesters, from the one after the rotation pointer on (R25). -/
def State.arbiter (s : State) : Option Requester :=
  let a := s.dnp.rotation.next
  if s.ready a then some a
  else if s.ready a.next then some a.next
  else if s.ready a.next.next then some a.next.next
  else none

/-- An internal tag is free: no outstanding entry has it (R24). -/
def Dnp.tagFree (d : Dnp) (itag : ITag) : Bool := d.outstanding.all fun e => decide (e.itag ≠ itag)

/-- A requester is granted the port: the rotation pointer names it, and the transaction it issues takes an
outstanding entry (R25 to R27). -/
def State.issue (q : Requester) (itag : ITag) (owner : Owner) (address : Addr) (body : BusBody) (s : State) :
    State :=
  { s with dnp :=
      { outstanding := s.dnp.outstanding ++ [⟨itag, owner, false⟩]
        rotation := q
        issued := some ⟨itag, address, body⟩ } }

/-! ### Reactions that follow an event at once -/

/-- While the dwell runs in HOLD, something to send discards the dwell timer (R114). -/
def State.dwellCheck (s : State) : State :=
  match s.lnc.link with
  | .up u =>
    if u.sub = .hold ∧ u.dwell.isSome ∧ s.somethingToSend then s.setLink (.up { u with dwell := none }) else s
  | _ => s

/-- Send the training frame that LNC has asked for, once the line is idle; a HELLO starts the hello timer
(R159, R160, R163). -/
def State.sendWanted (s : State) : State :=
  match s.lnc.link with
  | .training t =>
    if s.lineIdle then
      match t.want, t.decision with
      | some .hello, _ =>
        (s.buildHello false).setLink
          (.training { t with want := none, hello := some ⟨s.now, s.lnc.params.helloInterval⟩ })
      | some .reply, _ => (s.buildHello true).setLink (.training { t with want := none })
      | some .start, some d => (s.buildStart d).setLink (.training { t with want := none })
      | some .start, none => s
      | none, _ => s
    else s
  | _ => s

/-- What follows an event at once, in this order (assumption log 15): acceptance of presented requests (R19), the
STALL wait of the head (R21 to R23), records finished at issue and the advance of A (R143, R144, R147), the take
of a queued region (R81), the end of a dwell (R114), a training frame that waited for the idle line (R159). -/
def State.settle (s : State) : State :=
  s.acceptPresented.stallCheck.applyRun.sweepTake.dwellCheck.sendWanted

/-- One event: `f` answers none where the event cannot happen, and then nothing changes (assumption log 1); while
RESET is asserted no event acts (assumption log 6). -/
def State.event (f : State → Option State) (s : State) : State :=
  if s.inReset then s
  else
    match f s with
    | some t => t.settle
    | none => s

end Sys2Proof.Machine
end

