-- ==== Sys2Proof/Machine/LineTurns.lean ====
section
/-! DEFINITION. The commands of this node's turns on the line: frame opportunities, frame ends, collisions and the
guard, dwell and silence timers (06, 07). -/

namespace Sys2Proof.Machine

/-- The turn state while the link is UP (R109). -/
def State.turn (s : State) : Option Turn :=
  match s.lnc.link with
  | .up u => some u
  | _ => none

/-! ### Frame opportunities (R101 to R103, R106, R113) -/

/-- The conditions of R113 for a frame opportunity in HOLD. -/
def State.opportunity (s : State) (u : Turn) : Bool :=
  decide (u.sub = .hold) && s.ftx.frame.isNone && decide (u.frames < s.lnc.params.burst) &&
    s.somethingToSend && !u.turnSent

/-- LNC marks the opportunity TURN: the burst limit is reached with this frame, or nothing would be left to send
after its take (R113). -/
def State.turnMark (s : State) (u : Turn) : Bool :=
  decide (u.frames + 1 = s.lnc.params.burst) || !s.sendableAfter

/-- FTX answers an opportunity: RETRY_LIMIT when a selected record has send count 8 (R102), else a DATA frame
(R103), or a CTRL frame when no record is sendable (R106). -/
def State.answerOpportunity (u : Turn) (s : State) : State :=
  let mark := s.turnMark u
  if s.sendable then
    if s.selection.any fun r => decide (Config.sendLimit ≤ r.sendCount) then s.goDown .retryLimit
    else (s.buildData mark).setLink (.up (u.frameStarted mark))
  else (s.buildCtrl mark).setLink (.up (u.frameStarted mark))

/-- FRAME_OPPORTUNITY (R113). -/
def execFrameOpportunity (s : State) : Host.Outcome State Fault Refusal :=
  .next (s.event fun s =>
    match s.turn with
    | none => none
    | some u => if s.opportunity u then some (s.answerOpportunity u) else none)

/-- What LNC does when this node's frame completes: a DATA or CTRL frame sets consecutive collisions to 0 and
with TURN hands the line over (R115, R123); a REPLY takes the secondary to REPLIED (R160); the START takes the
primary to UP in LISTEN (R110, R163). -/
def State.afterFrame (f : TxFrame) (s : State) : State :=
  match s.lnc.link, f.type with
  | .up u, _ =>
    let v := { u with collisions := 0 }
    s.setLink (.up (if f.turn then v.toListen s.now s.lnc.params.silence else v))
  | .training t, .hello =>
    if f.reply ∧ t.phase = .replying then s.setLink (.training { t with phase := .replied }) else s
  | .training _, .start => s.goUp (Turn.fresh.toListen s.now s.lnc.params.silence)
  | .training _, _ => s
  | .disabled, _ => s
  | .down _, _ => s

/-- The frame in progress is transmitted to its end (R105). -/
def State.completeFrame (s : State) : Option State :=
  match s.ftx.frame with
  | none => none
  | some f => some (((s.reach (f.start + bitsToUs f.lineBits)).finishFrame f).afterFrame f)

/-- FRAME_COMPLETED (R105). -/
def execFrameCompleted (s : State) : Host.Outcome State Fault Refusal := .next (s.event State.completeFrame)

/-! ### Collisions (R121 to R123) -/

/-- The back-off by role after a collision (R122). -/
def State.backOff (u : Turn) (s : State) : State :=
  match s.lnc.params.role with
  | .primary => s.setLink (.up (u.toGuard s.now (2 * s.lnc.params.guard)))
  | .secondary => s.setLink (.up (u.toListen s.now s.lnc.params.silence))

/-- A collision while the link is UP and this node drives the line (R121). The peer's part of it keeps the line from
idle until the line returns to idle (assumption log 17). -/
def State.collide (s : State) : Option State :=
  match s.turn, s.ftx.frame with
  | some u, some _ =>
    let v := { u with collisions := u.collisions + 1 }
    let t := (s.cutFrame.lineContested.count .collisions).setLink (.up v)
    some (if v.collisions < Config.collisionLimit then t.backOff v else t.goDown .collisions)
  | _, _ => none

/-- COLLISION (R121). -/
def execCollision (s : State) : Host.Outcome State Fault Refusal := .next (s.event State.collide)

/-! ### Turn timers (R111, R114, R120) -/

/-- The guard timer expires in GUARD: HOLD and a turn start (R111, R112). -/
def State.expireGuard (s : State) : Option State :=
  match s.turn with
  | none => none
  | some u =>
    match u.sub, u.guard with
    | .guard, some g => some ((s.reach g.due).enterHold u)
    | _, _ => none

/-- GUARD_TIMER_EXPIRY (R111). -/
def execGuardTimerExpiry (s : State) : Host.Outcome State Fault Refusal := .next (s.event State.expireGuard)

/-- The dwell expires with nothing to send: a CTRL frame with TURN (R114, R106). -/
def State.expireDwell (s : State) : Option State :=
  match s.turn with
  | none => none
  | some u =>
    match u.sub, u.dwell, s.ftx.frame with
    | .hold, some d, none => some (((s.reach d.due).buildCtrl true).setLink (.up (u.frameStarted true)))
    | _, _, _ => none

/-- DWELL_TIMER_EXPIRY (R114). -/
def execDwellTimerExpiry (s : State) : Host.Outcome State Fault Refusal := .next (s.event State.expireDwell)

/-- The silence timer expires in LISTEN: a missed turn, then a reclaim or DOWN (R120). -/
def State.expireSilence (s : State) : Option State :=
  match s.turn with
  | none => none
  | some u =>
    match u.sub, u.silence with
    | .listen, .running d =>
      let v := { u with missed := u.missed + 1 }
      let t := ((s.reach d.due).count .missedTurns).setLink (.up v)
      some (if v.missed < Config.missedLimit then t.setLink (.up (v.toGuard t.now t.lnc.params.guard))
        else t.goDown .missedTurns)
    | _, _ => none

/-- SILENCE_TIMER_EXPIRY (R120). -/
def execSilenceTimerExpiry (s : State) : Host.Outcome State Fault Refusal := .next (s.event State.expireSilence)

end Sys2Proof.Machine
end

