-- ==== Sys2Proof/Decode.lean ====
section
/-! DEFINITION. From bits to commands. No row of spec/opcode_table.json gives bits, so `decodeTableWord` reads
none. The management port's request codes (12_formats, 12.2) turn the bytes of an SPI transaction into the
command it carries. -/

namespace Sys2Proof

/-- The command a table word spells: no row of the table gives bits (spec/opcode_table.json: every row's
"fields" is empty). -/
def decodeTableWord (_nbits _w : Nat) : Option Instr := none

/-- The 20 request codes of 12_formats, 12.2. -/
def requestCodes : List Byte :=
  [0x00, 0x01, 0x10, 0x11, 0x12, 0x13, 0x14, 0x15, 0x20, 0x21, 0x22, 0x23, 0x24, 0x30, 0x31, 0x40, 0x41,
    0x42, 0x50, 0x51]

/-- The command carried by an SPI transaction of these complete bytes (R167: byte 0 is the request code;
R169: a code outside the table is an undefined request). -/
def decodeTransaction (fell : Bool) (tail : List Bool) : List Byte → Instr
  | [] => .undefinedRequest ⟨fell, [], tail⟩
  | code :: rest =>
    let t : Transaction := ⟨fell, rest, tail⟩
    match code.toNat with
    | 0x00 => .nop t
    | 0x01 => .portIdent t
    | 0x10 => .regionSet t
    | 0x11 => .regionEnable t
    | 0x12 => .regionDisable t
    | 0x13 => .regionResync t
    | 0x14 => .regionMode t
    | 0x15 => .regionQuery t
    | 0x20 => .linkSet t
    | 0x21 => .linkEnable t
    | 0x22 => .linkDisable t
    | 0x23 => .linkRenew t
    | 0x24 => .linkQuery t
    | 0x30 => .journalSet t
    | 0x31 => .journalQuery t
    | 0x40 => .eventQuery t
    | 0x41 => .eventAck t
    | 0x42 => .eventEnable t
    | 0x50 => .counterQuery t
    | 0x51 => .counterZero t
    | _ => .undefinedRequest ⟨fell, code :: rest, tail⟩

/-- The complete bytes and the incomplete tail an SPI transaction of a command shifts in, and none for a
command that is no management transaction. -/
def encodeTransaction : Instr → Option (List Byte)
  | .nop t => some (0x00 :: t.bytes)
  | .portIdent t => some (0x01 :: t.bytes)
  | .regionSet t => some (0x10 :: t.bytes)
  | .regionEnable t => some (0x11 :: t.bytes)
  | .regionDisable t => some (0x12 :: t.bytes)
  | .regionResync t => some (0x13 :: t.bytes)
  | .regionMode t => some (0x14 :: t.bytes)
  | .regionQuery t => some (0x15 :: t.bytes)
  | .linkSet t => some (0x20 :: t.bytes)
  | .linkEnable t => some (0x21 :: t.bytes)
  | .linkDisable t => some (0x22 :: t.bytes)
  | .linkRenew t => some (0x23 :: t.bytes)
  | .linkQuery t => some (0x24 :: t.bytes)
  | .journalSet t => some (0x30 :: t.bytes)
  | .journalQuery t => some (0x31 :: t.bytes)
  | .eventQuery t => some (0x40 :: t.bytes)
  | .eventAck t => some (0x41 :: t.bytes)
  | .eventEnable t => some (0x42 :: t.bytes)
  | .counterQuery t => some (0x50 :: t.bytes)
  | .counterZero t => some (0x51 :: t.bytes)
  | .undefinedRequest t => some t.bytes
  | .upstreamRequest _ | .malformedHead | .upGrant _ | .aplGrant _ | .swpGrant _ | .downstreamResponse _ _ _
  | .upstreamResponse _ | .stallTimerExpiry | .hostBusReset | .hostBusResetRelease | .reset
  | .holdDeadlineExpiry _ | .frameOpportunity | .frameCompleted | .collision | .guardTimerExpiry
  | .dwellTimerExpiry | .silenceTimerExpiry | .frameMarkDetected | .headerReceived _ | .frameEnd _
  | .retrainTimerExpiry | .helloTimerExpiry | .replyGuardExpiry | .startGuardExpiry | .trainingTimerExpiry
  | .resetRelease => none

end Sys2Proof
end

