-- ==== Sys2Proof/Machine/ManagementPort.lean ====
section
/-! DEFINITION. The management port: the SPI transaction (R167 to R169) and the 20 requests (R2, R7, R8, R11, R12,
R153 to R155, R170 to R175, R177, R178, R180). -/

namespace Sys2Proof.Machine

/-! ### The transaction (R167 to R169) -/

/-- Byte `k` shifted out: byte `k` of the response buffer, 0x00 past its end (R168). -/
def Mgp.outByte (m : Mgp) (k : Nat) : Byte := m.response.bytes.getD k 0

/-- What MG_MISO carries during a transaction of `n` complete bytes and `tail` more bits (R167, R168). -/
def State.shiftOut (n tail : Nat) (s : State) : State :=
  { s with mgp := { s.mgp with
      miso := (List.range n).map s.mgp.outByte
      misoTail := (List.range tail).map fun i => (s.mgp.outByte n).getLsbD (7 - i) } }

/-- Replace the response buffer (R168). -/
def State.answer (st : Status) (payload : List Byte) (s : State) : State :=
  { s with mgp := { s.mgp with response := ⟨st, payload⟩ } }

/-- The payload of a request after its code byte: the payload length byte must be there, and must equal both the
request's fixed length and the number of complete payload bytes (check 2 of R169). -/
def payloadOf (len : Nat) : List Byte → Option (List Byte)
  | [] => none
  | l :: payload => if l.toNat = len ∧ payload.length = len then some payload else none

/-- What a request comes to once its length is right (R169). -/
inductive Verdict where
  /-- refused by one of the request's own checks -/
  | refused (st : Status)
  /-- answered OK with a payload, the state as given -/
  | answered (payload : List Byte) (s : State)
  /-- answered OK with no payload; the change reaches other blocks, which react at once -/
  | acted (s : State)

/-- A transaction that carries a request of fixed payload length `len` (R167 to R169): nothing happens while RESET
is asserted, nor without a fall of MG_CSN since its release. -/
def State.transaction (t : Transaction) (len : Nat) (run : List Byte → State → Verdict) (s : State) : State :=
  if s.inReset || !t.fell then s
  else
    let u := s.shiftOut (t.bytes.length + 1) t.tail.length
    match payloadOf len t.bytes with
    | none => u.answer .badLength []
    | some p =>
      match run p u with
      | .refused st => u.answer st []
      | .answered payload v => v.answer .ok payload
      | .acted v => (v.answer .ok []).settle

/-- The region an index byte names; none outside 0 to 15 (BAD_INDEX). -/
def regionIxOf (b : Byte) : Option RegionIx := if h : b.toNat < 16 then some ⟨b.toNat, h⟩ else none

/-- A request whose first payload byte is a region index (R171, R172). -/
def withRegion (p : List Byte) (f : RegionIx → Verdict) : Verdict :=
  match regionIxOf (p.getD 0 0) with
  | none => .refused .badIndex
  | some r => f r

/-! ### Port group (R170) -/

/-- NOP (R170). -/
def execNop (t : Transaction) (s : State) : Host.Outcome State Fault Refusal :=
  .next (s.transaction t 0 fun _ s => .answered [] s)

/-- The identity and limits PORT.IDENT reports (R170, 12.2). -/
def identity : List Byte :=
  beBytes 2 Config.partNumber ++ beBytes 1 Config.revision ++ beBytes 1 16 ++ beBytes 2 Config.journalRecords
    ++ beBytes 4 Config.journalBytes ++ beBytes 2 Config.applyRecords ++ beBytes 4 Config.applyBytes

/-- PORT.IDENT (R170). -/
def execPortIdent (t : Transaction) (s : State) : Host.Outcome State Fault Refusal :=
  .next (s.transaction t 0 fun _ s => .answered identity s)

/-! ### Region group (R171, R172) -/

/-- REGION.SET's own checks and effect (R2, R4). -/
def State.regionSet (p : List Byte) (s : State) : Verdict :=
  withRegion p fun r =>
    if (s.region r).state ≠ .disabled then .refused .badState
    else
      match fieldsOf p with
      | none => .refused .badValue
      | some f =>
        if f.inRange then .answered [] (s.setRegion r { s.region r with fields := f }) else .refused .badValue

/-- REGION.SET (R2). -/
def execRegionSet (t : Transaction) (s : State) : Host.Outcome State Fault Refusal :=
  .next (s.transaction t 21 fun p s => s.regionSet p)

/-- An entry that passed the overlap test is enabled: TARGET to ACTIVE (R6), SOURCE to DIVERGED and, with
auto-resync ON and the link UP, on to RESYNCING (R7). -/
def State.enableRegion (r : RegionIx) (s : State) : State :=
  match (s.region r).fields.direction with
  | .target => s.setRegionState r .active
  | .source =>
    let t := s.setRegionState r .diverged
    if (s.region r).fields.autoResync && s.linkUp then t.toResyncing r else t

/-- REGION.ENABLE's own checks and effect (R5 to R7, R171). -/
def State.regionEnable (p : List Byte) (s : State) : Verdict :=
  withRegion p fun r =>
    if (s.region r).state ≠ .disabled then .refused .badState
    else if s.overlaps r then .refused .overlap
    else .acted (s.enableRegion r)

/-- REGION.ENABLE (R7). -/
def execRegionEnable (t : Transaction) (s : State) : Host.Outcome State Fault Refusal :=
  .next (s.transaction t 1 fun p s => s.regionEnable p)

/-- REGION.DISABLE's own check and effect (R11). -/
def State.regionDisable (p : List Byte) (s : State) : Verdict :=
  withRegion p fun r =>
    if (s.region r).state = .disabled then .answered [] s
    else .acted ((s.setRegionState r .disabled).dropSweep r)

/-- REGION.DISABLE (R11). -/
def execRegionDisable (t : Transaction) (s : State) : Host.Outcome State Fault Refusal :=
  .next (s.transaction t 1 fun p s => s.regionDisable p)

/-- REGION.RESYNC's own checks and effect (R8). -/
def State.regionResync (p : List Byte) (s : State) : Verdict :=
  withRegion p fun r =>
    if (s.region r).fields.direction = .source ∧ (s.region r).state = .diverged then .acted (s.toResyncing r)
    else .refused .badState

/-- REGION.RESYNC (R8). -/
def execRegionResync (t : Transaction) (s : State) : Host.Outcome State Fault Refusal :=
  .next (s.transaction t 1 fun p s => s.regionResync p)

/-- REGION.MODE's own checks and effect (R12, R171). -/
def State.regionMode (p : List Byte) (s : State) : Verdict :=
  withRegion p fun r =>
    if (s.region r).fields.direction = .source ∧ (s.region r).state ≠ .disabled then
      match enumOf Mode.async Mode.sync (p.getD 1 0) with
      | none => .refused .badValue
      | some m => .answered [] (s.setMode r m)
    else .refused .badState

/-- REGION.MODE (R12). -/
def execRegionMode (t : Transaction) (s : State) : Host.Outcome State Fault Refusal :=
  .next (s.transaction t 2 fun p s => s.regionMode p)

/-- The next chunk as the 40 bits REGION.QUERY reports; for 2^40 they are a free value (assumption log 11). -/
def SweepCtx.reported (c : SweepCtx) (f : RegionFields) : BitVec 40 :=
  if c.nextChunk < 2 ^ 40 then BitVec.ofNat 40 c.nextChunk else Config.nextChunkPastTop f.basePage f.size

/-- The sweep kind and value of a region (R172, 12.2). -/
def State.sweepReport (s : State) (r : RegionIx) : List Byte :=
  if r ∈ s.swp.queue then [1] ++ beBytes 5 (s.swp.queue.idxOf r)
  else
    match s.swp.engine with
    | .reading c =>
      if c.region = r then [2] ++ beBytes 5 (c.reported (s.region r).fields).toNat else [0] ++ beBytes 5 0
    | .draining c =>
      if c.region = r then [3, 0] ++ beBytes 4 (c.lastSeq.getD 0).toNat else [0] ++ beBytes 5 0
    | .idle => [0] ++ beBytes 5 0

/-- REGION.QUERY's payload (R172, 12.2). -/
def State.regionReport (s : State) (r : RegionIx) : List Byte :=
  beBytes 1 r.val ++ encodeFields (s.region r).fields ++ [(s.region r).state.code] ++ s.sweepReport r

/-- REGION.QUERY (R172). -/
def execRegionQuery (t : Transaction) (s : State) : Host.Outcome State Fault Refusal :=
  .next (s.transaction t 1 fun p s => withRegion p fun r => .answered (s.regionReport r) s)

/-! ### Link group (R173, R174) -/

/-- LINK.SET's own checks and effect (R153). -/
def State.linkSet (p : List Byte) (s : State) : Verdict :=
  match s.lnc.link with
  | .disabled =>
    match paramsOf p with
    | none => .refused .badValue
    | some q =>
      if q.inRange then .answered [] { s with lnc := { s.lnc with params := q } } else .refused .badValue
  | _ => .refused .badState

/-- LINK.SET (R153). -/
def execLinkSet (t : Transaction) (s : State) : Host.Outcome State Fault Refusal :=
  .next (s.transaction t 18 fun p s => s.linkSet p)

/-- LINK.ENABLE's own check and effect (R154). -/
def State.linkEnable (s : State) : Verdict :=
  match s.lnc.link with
  | .disabled => .acted s.enterTraining
  | _ => .refused .badState

/-- LINK.ENABLE (R154). -/
def execLinkEnable (t : Transaction) (s : State) : Host.Outcome State Fault Refusal :=
  .next (s.transaction t 0 fun _ s => s.linkEnable)

/-- LINK.DISABLE (R154). -/
def execLinkDisable (t : Transaction) (s : State) : Host.Outcome State Fault Refusal :=
  .next (s.transaction t 0 fun _ s => .acted s.goDisabled)

/-- LINK.RENEW's effect (R155). -/
def State.linkRenew (s : State) : State := { s with lnc := { s.lnc with fresh := true } }.goDown .renew

/-- LINK.RENEW (R155). -/
def execLinkRenew (t : Transaction) (s : State) : Host.Outcome State Fault Refusal :=
  .next (s.transaction t 0 fun _ s => .acted s.linkRenew)

/-- Training phase, turn sub-state and the two consecutive counts (R174): none and 0 where they do not exist. -/
def Link.report (l : Link) : List Byte :=
  match l with
  | .disabled => [0, 0, 0, 0]
  | .training t => [t.phase.code, 0, 0, 0]
  | .up u => [0, u.sub.code, BitVec.ofNat 8 u.missed, BitVec.ofNat 8 u.collisions]
  | .down _ => [0, 0, 0, 0]

/-- LINK.QUERY's payload (R174, 12.2). -/
def State.linkReport (s : State) : List Byte :=
  [s.lnc.link.code, causeCode s.lnc.lastCause, flagByte [s.lnc.fresh, s.lnc.unconfirmed]] ++ s.lnc.link.report
    ++ encodeParams s.lnc.params ++ beBytes 2 (s.lnc.peerWindow.getD 0) ++ [nakCode s.ftx.pendingNak]
    ++ beBytes 4 s.frx.expected.toNat ++ [nakCode s.frx.lastNak] ++ beBytes 4 s.apl.applied.toNat
    ++ beBytes 2 s.apl.queue.length ++ beBytes 4 (applyBytesOf s.apl.queue) ++ beBytes 1 s.apl.inFlight.length
    ++ beBytes 1 (s.apl.inFlight.countP AplEntry.orphaned)

/-- LINK.QUERY (R174). -/
def execLinkQuery (t : Transaction) (s : State) : Host.Outcome State Fault Refusal :=
  .next (s.transaction t 0 fun _ s => .answered s.linkReport s)

/-! ### Journal group (R175) -/

/-- JOURNAL.SET's own checks and effect (R175, R59). -/
def State.journalSet (p : List Byte) (s : State) : Verdict :=
  let high := field p 0 1
  let low := field p 1 1
  let desc := field p 2 2
  let bytes := field p 4 4
  if 1 ≤ high ∧ high ≤ 100 ∧ low ≤ 99 ∧ desc ≤ 1024 ∧ bytes ≤ 65536 ∧ low < high then
    .answered []
      { s with jnl := { s.jnl with
          highMark := high, lowMark := low, reserveDesc := desc, reserveBytes := bytes } }.evalMarks
  else .refused .badValue

/-- JOURNAL.SET (R175). -/
def execJournalSet (t : Transaction) (s : State) : Host.Outcome State Fault Refusal :=
  .next (s.transaction t 8 fun p s => s.journalSet p)

/-- JOURNAL.QUERY's payload (R175, 12.2). The latch byte is 0x01 when set and 0x00 when clear (DESIGN CHOICE,
assumption log 26). -/
def Jnl.report (j : Jnl) : List Byte :=
  beBytes 1 j.occupancy ++ beBytes 2 j.records.length ++ beBytes 4 j.bytes ++ beBytes 4 j.oldest.toNat
    ++ beBytes 4 j.sendPoint.toNat ++ beBytes 4 j.nextSeq.toNat ++ beBytes 2 j.sentCount
    ++ beBytes 2 (countState .pending j.records) ++ beBytes 2 (countState .filling j.records)
    ++ [BitVec.ofNat 8 j.latch.toNat] ++ beBytes 1 j.highMark ++ beBytes 1 j.lowMark ++ beBytes 2 j.reserveDesc
    ++ beBytes 4 j.reserveBytes

/-- JOURNAL.QUERY (R175). -/
def execJournalQuery (t : Transaction) (s : State) : Host.Outcome State Fault Refusal :=
  .next (s.transaction t 0 fun _ s => .answered s.jnl.report s)

/-! ### Event group (R177, R178) -/

/-- The pending flags of the 16 kinds. -/
def Mgp.pendingFlags (m : Mgp) : Vector Bool 16 := m.events.map EventSlot.pending

/-- EVENT.QUERY's payload (R178, 12.2). The byte for EK_INT is 0x01 when asserted and 0x00 when not (DESIGN CHOICE,
assumption log 26). -/
def Mgp.eventReport (m : Mgp) : List Byte :=
  flags16 m.pendingFlags ++ (m.events.map EventSlot.count).toList ++ flags16 m.divergedMask
    ++ flags16 m.enableMask ++ [BitVec.ofNat 8 m.ekInt.toNat]

/-- EVENT.QUERY (R178). -/
def execEventQuery (t : Transaction) (s : State) : Host.Outcome State Fault Refusal :=
  .next (s.transaction t 0 fun _ s => .answered s.mgp.eventReport s)

/-- The slots of the acknowledged kinds, the others empty: what an acknowledgment clears (R178). -/
def Mgp.acknowledged (m : Mgp) (kinds : Vector Bool 16) : Vector EventSlot 16 :=
  Vector.ofFn fun k : Fin 16 => if kinds[k] then m.events[k] else ⟨false, 0⟩

/-- EVENT.ACK's payload: what it clears, as it stood just before (R178, 12.2). -/
def Mgp.ackReport (m : Mgp) (kinds : Vector Bool 16) : List Byte :=
  flags16 ((m.acknowledged kinds).map EventSlot.pending) ++ ((m.acknowledged kinds).map EventSlot.count).toList
    ++ flags16 (if kinds[EventKind.regionDiverged.ix] then m.divergedMask else Vector.replicate 16 false)

/-- Clear the acknowledged kinds, and the region-diverged mask with REGION_DIVERGED (R178). -/
def Mgp.acknowledge (kinds : Vector Bool 16) (m : Mgp) : Mgp :=
  { m with
    events := Vector.ofFn fun k : Fin 16 => if kinds[k] then ⟨false, 0⟩ else m.events[k]
    divergedMask := if kinds[EventKind.regionDiverged.ix] then Vector.replicate 16 false else m.divergedMask }

/-- EVENT.ACK (R178). -/
def execEventAck (t : Transaction) (s : State) : Host.Outcome State Fault Refusal :=
  .next (s.transaction t 2 fun p s =>
    .answered (s.mgp.ackReport (flagsOf p)) { s with mgp := s.mgp.acknowledge (flagsOf p) })

/-- EVENT.ENABLE (R177). -/
def execEventEnable (t : Transaction) (s : State) : Host.Outcome State Fault Refusal :=
  .next (s.transaction t 2 fun p s => .answered [] { s with mgp := { s.mgp with enableMask := flagsOf p } })

/-! ### Counter group (R180) -/

/-- What a counter id names (12.2). -/
inductive CounterId where
  | device (k : Fin 16)
  | captured (r : RegionIx)
  | stray (r : RegionIx)
  | applied (r : RegionIx)
  deriving DecidableEq, Repr

/-- The counter of an id byte; none for an id that names no counter (R180, 12.2). -/
def counterOf (b : Byte) : Option CounterId :=
  let k : Fin 16 := ⟨b.toNat % 16, Nat.mod_lt _ (by decide)⟩
  match b.toNat / 16 with
  | 0 => some (.device k)
  | 1 => some (.captured k)
  | 2 => some (.stray k)
  | 3 => some (.applied k)
  | _ => none

/-- The value of a counter. -/
def State.counter (s : State) : CounterId → Counter
  | .device k => s.mgp.counters[k]
  | .captured r => (s.region r).captured
  | .stray r => (s.region r).strays
  | .applied r => (s.region r).applied

/-- Set a counter to 0 (R180). -/
def State.zeroCounter (c : CounterId) (s : State) : State :=
  match c with
  | .device k => { s with mgp := { s.mgp with counters := s.mgp.counters.set k 0 } }
  | .captured r => s.setRegion r { s.region r with captured := 0 }
  | .stray r => s.setRegion r { s.region r with strays := 0 }
  | .applied r => s.setRegion r { s.region r with applied := 0 }

/-- A region table entry with its three counters at 0. -/
def Region.zeroCounters (e : Region) : Region := { e with captured := 0, strays := 0, applied := 0 }

/-- Set all 64 counters to 0 (R180). -/
def State.zeroAll (s : State) : State :=
  { s with
    mgp := { s.mgp with counters := Vector.replicate 16 0 }
    rgt := { entries := s.rgt.entries.map Region.zeroCounters } }

/-- COUNTER.QUERY (R180). -/
def execCounterQuery (t : Transaction) (s : State) : Host.Outcome State Fault Refusal :=
  .next (s.transaction t 1 fun p s =>
    match counterOf (p.getD 0 0) with
    | none => .refused .badIndex
    | some c => .answered (p.getD 0 0 :: beBytes 4 (s.counter c).toNat) s)

/-- COUNTER.ZERO (R180). -/
def execCounterZero (t : Transaction) (s : State) : Host.Outcome State Fault Refusal :=
  .next (s.transaction t 1 fun p s =>
    if p.getD 0 0 = 0xFF then .answered [] s.zeroAll
    else
      match counterOf (p.getD 0 0) with
      | none => .refused .badIndex
      | some c => .answered [] (s.zeroCounter c))

/-! ### Transactions that name no request (R167, R169) -/

/-- UNDEFINED_REQUEST (R169): an undefined code is answered BAD_CODE. A transaction with no complete byte carries
no request, and the buffer keeps its contents (R167). Bytes that begin with one of the 20 codes are no
UNDEFINED_REQUEST, and the command changes nothing (assumption log 1). -/
def execUndefinedRequest (t : Transaction) (s : State) : Host.Outcome State Fault Refusal :=
  if s.inReset || !t.fell then .next s
  else
    match t.bytes with
    | [] => .next (s.shiftOut 0 t.tail.length)
    | c :: rest =>
      if requestCodes.contains c then .next s
      else .next ((s.shiftOut (rest.length + 1) t.tail.length).answer .badCode [])

end Sys2Proof.Machine
end

