-- ==== Sys2Proof/Machine/MemoryPath.lean ====
section
/-! DEFINITION. The commands of the memory path: requests, grants, responses, the stall timer and the hold
deadline (02, 04, R83, R145). -/

namespace Sys2Proof.Machine

/-! ### The upstream side -/

/-- UPSTREAM_REQUEST (R19): the bus presents a request behind those it presents already; UPI accepts it as soon
as R19 allows. -/
def execUpstreamRequest (r : UpRequest) (s : State) : Host.Outcome State Fault Refusal :=
  let t := { s with upi := { s.upi with presented := s.upi.presented ++ [r] } }
  .next (t.event some)

/-- The data of a FAULT answer: a READ's bytes are 0x00 (R29; for a malformed READ assumption log 8). -/
def faultData : BusBody → List Byte
  | .read n => List.replicate n 0
  | .write _ => []

/-- A malformed head is answered FAULT and removed (R20). -/
def State.answerMalformed (s : State) : Option State :=
  match s.upi.intake with
  | [] => none
  | r :: _ => if malformed r then some (s.popHead.respond r.tag .fault (faultData r.body)) else none

/-- MALFORMED_HEAD (R20). -/
def execMalformedHead (s : State) : Host.Outcome State Fault Refusal := .next (s.event State.answerMalformed)

/-- A ready response leaves, and its tag leaves the in-flight set (R32). -/
def State.sendResponse (tag : Tag) (s : State) : Option State :=
  match s.upi.responses.find? fun p => decide (p.tag = tag) with
  | none => none
  | some p =>
    some { s with upi := { s.upi with
      responses := s.upi.responses.filter fun q => decide (q.tag ≠ tag)
      inFlight := s.upi.inFlight.filter fun g => decide (g ≠ tag)
      sent := some p } }

/-- UPSTREAM_RESPONSE (R32). -/
def execUpstreamResponse (tag : Tag) (s : State) : Host.Outcome State Fault Refusal :=
  .next (s.event (State.sendResponse tag))

/-! ### The grant to UP (R14 to R16, R26) -/

/-- How RGT and JNL class a granted transaction (R14, R15, R16). -/
inductive UpClass where
  /-- forwarded and not captured; no region's state is touched -/
  | forward (path : UpPath)
  /-- captured in a region -/
  | capture (x : RegionIx)
  /-- the capture in a region lacks space under DROP -/
  | noSpace (x : RegionIx) (path : UpPath)
  /-- a stray write in a region under PASS -/
  | strayPass (x : RegionIx)
  /-- a stray write in a region under REJECT -/
  | strayReject (x : RegionIx)
  deriving DecidableEq, Repr

/-- How an uncaptured write with an enabled byte in a SOURCE region is answered (R30, R31, R75). -/
def RegionFields.uncaptured (f : RegionFields) : UpPath :=
  match f.mode with
  | .async => .plain
  | .sync => .uncapturedSync f.action

/-- Class a transaction from the region table and the journal as they stand (R14, R15, R16). -/
def State.classify (s : State) (r : UpRequest) : UpClass :=
  match r.body with
  | .read n => .forward (.read n)
  | .write bytes =>
    match s.lookup (pageOf r.address) with
    | none => .forward .plain
    | some x =>
      let e := s.region x
      match e.fields.direction with
      | .target =>
        match e.fields.stray with
        | .pass => .strayPass x
        | .reject => .strayReject x
      | .source =>
        if !anyEnabled bytes then .forward .plain
        else if e.capturing then
          if s.jnl.captureFits x r.address (remoteOf r.address e.fields.displacement) bytes then .capture x
          else .noSpace x e.fields.uncaptured
        else .forward e.fields.uncaptured

/-- A write is captured in a region: its record, CAPTURED, and in SYNC mode its hold (R15, R17, R44, R47,
R63). -/
def State.captureWrite (x : RegionIx) (r : UpRequest) (bytes : List (Byte × Bool)) (s : State) : State :=
  let f := (s.region x).fields
  let remote := remoteOf r.address f.displacement
  let seq := s.jnl.captureSeq x r.address remote bytes
  let t := (s.capture x r.address remote bytes).countCaptured x
  match f.mode with
  | .async => t
  | .sync => t.addHold (newHold r.tag x seq f s.now)

/-- A stray write is classified (R16, R17). -/
def State.strayWrite (x : RegionIx) (s : State) : State := (s.countStray x).raise .strayWrite

/-- What the class does before the transaction is issued, and how its response will be formed; none for a
REJECT stray write, which issues nothing (R15, R16, R60). -/
def State.applyClass (c : UpClass) (r : UpRequest) (s : State) : State × Option UpPath :=
  match c with
  | .forward path => (s, some path)
  | .capture x =>
    match r.body with
    | .read n => (s, some (.read n))
    | .write bytes => (s.captureWrite x r bytes, some (.captured (decide ((s.region x).fields.mode = .sync))))
  | .noSpace x path => (s.diverge x, some path)
  | .strayPass x => (s.strayWrite x, some .plain)
  | .strayReject x => (s.strayWrite x, none)

/-- The grant of the head to UP (R26). The internal tag must be free where one is used. -/
def State.grantUp (itag : ITag) (s : State) : Option State :=
  if s.arbiter = some .up then
    match s.upi.intake with
    | [] => none
    | r :: _ =>
      match s.popHead.applyClass (s.classify r) r with
      | (t, some path) =>
        if s.dnp.tagFree itag then some (t.issue .up itag (.up r.tag path) r.address r.body) else none
      | (t, none) => some ({ t with dnp := { t.dnp with rotation := .up } }.respond r.tag .fault [])
  else none

/-- UP_GRANT (R26). -/
def execUpGrant (itag : ITag) (s : State) : Host.Outcome State Fault Refusal := .next (s.event (State.grantUp itag))

/-! ### The grants to APL and SWP (R27, R83, R145) -/

/-- The grant of the mapped record at the issue point (R145). -/
def State.grantApl (itag : ITag) (s : State) : Option State :=
  if s.arbiter = some .apl ∧ s.dnp.tagFree itag then
    match s.classifyIssue with
    | .mapped rec r =>
      let e : AplEntry := ⟨itag, rec.seq, r, false⟩
      let t := { s with apl := { s.apl.passIssue .inFlight with inFlight := s.apl.inFlight ++ [e] } }
      some (t.issue .apl itag (.apl rec.seq) rec.remoteAddr (.write rec.writeBytes))
    | _ => none
  else none

/-- APL_GRANT (R145). -/
def execAplGrant (itag : ITag) (s : State) : Host.Outcome State Fault Refusal :=
  .next (s.event (State.grantApl itag))

/-- The grant of the next chunk of the sweep (R83, R45). -/
def State.grantSwp (itag : ITag) (s : State) : Option State :=
  if s.arbiter = some .swp ∧ s.dnp.tagFree itag then
    match s.swp.engine with
    | .reading c =>
      let seq := s.jnl.nextSeq
      let addr : Addr := BitVec.ofNat 40 c.nextChunk
      let remote := remoteOf addr (s.region c.region).fields.displacement
      let t := s.appendRecord (sweepRecord seq c.region addr remote)
      let t := { t with swp := { t.swp with engine := .reading (c.granted seq) } }
      some (t.issue .swp itag (.swp seq) addr (.read Config.chunkBytes))
    | _ => none
  else none

/-- SWP_GRANT (R83). -/
def execSwpGrant (itag : ITag) (s : State) : Host.Outcome State Fault Refusal :=
  .next (s.event (State.grantSwp itag))

/-! ### Responses from memory (R28 to R33, R75) -/

/-- LOCAL_FAULT is raised for a FAULT on a captured write (R33). -/
def State.localFault (st : BusStatus) (s : State) : State :=
  match st with
  | .okay => s
  | .fault => s.raise .localFault

/-- The upstream answer to an uncaptured SYNC write (the table of R75). -/
def uncapturedAnswer (a : TimeoutAction) (st : BusStatus) : BusStatus :=
  match a with
  | .fail => .fault
  | .degrade => st

/-- The response to an UP transaction that is not abandoned (R29 to R31, R33, R75). -/
def State.upAnswer (tag : Tag) (path : UpPath) (st : BusStatus) (data : List Byte) (s : State) : State :=
  match path with
  | .read n => s.respond tag st (match st with
      | .okay => data.take n
      | .fault => List.replicate n 0)
  | .plain => s.respond tag st []
  | .captured false => (s.localFault st).respond tag st []
  | .captured true => (s.localFault st).holdLocalStatus tag st
  | .uncapturedSync a => s.respond tag (uncapturedAnswer a st) []

/-- The response to an abandoned UP transaction: only the fault handling of a captured write (R28, R33). -/
def State.upAbandoned (path : UpPath) (st : BusStatus) (s : State) : State :=
  match path with
  | .captured _ => s.localFault st
  | _ => s

/-- Deliver a response by its entry (the table of R28). -/
def State.deliver (e : OutEntry) (st : BusStatus) (data : List Byte) (s : State) : State :=
  match e.owner with
  | .up tag path => if e.abandoned then s.upAbandoned path st else s.upAnswer tag path st data
  | .apl _ => s.applyAnswer e.itag st
  | .swp seq => if e.abandoned then s else s.sweepAnswer seq st (data.take Config.chunkBytes)

/-- A response from memory is matched by its internal tag, its entry removed, and the response delivered; one
that matches no entry is discarded (R28). -/
def State.takeDownstream (itag : ITag) (st : BusStatus) (data : List Byte) (s : State) : Option State :=
  match s.dnp.outstanding.find? fun e => decide (e.itag = itag) with
  | none => none
  | some e =>
    let t := { s with dnp := { s.dnp with
      outstanding := s.dnp.outstanding.filter fun f => decide (f.itag ≠ itag) } }
    some (t.deliver e st data)

/-- DOWNSTREAM_RESPONSE (R28). -/
def execDownstreamResponse (itag : ITag) (st : BusStatus) (data : Vector Byte 256) (s : State) :
    Host.Outcome State Fault Refusal :=
  .next (s.event (State.takeDownstream itag st data.toList))

/-! ### Timers (R23, R67) -/

/-- The stall timer expires: the expiry is recorded, and acted on if the head is in STALL (R23). -/
def State.expireStall (s : State) : Option State :=
  match s.upi.stall with
  | none => none
  | some t =>
    if t.expired then none
    else
      let u := s.reach (t.start + t.length)
      let u := { u with upi := { u.upi with stall := some { t with expired := true } } }
      match s.stallRegion with
      | none => some u
      | some x => some (u.stallActions x)

/-- STALL_TIMER_EXPIRY (R23). -/
def execStallTimerExpiry (s : State) : Host.Outcome State Fault Refusal := .next (s.event State.expireStall)

/-- The deadline timer of a hold expires (R67); outside OPEN the expiry is discarded. -/
def State.deadlineExpires (tag : Tag) (s : State) : Option State :=
  match s.holdOf tag with
  | none => none
  | some h => if h.state = .openHold then some ((s.reach h.deadline).expireHold tag) else none

/-- HOLD_DEADLINE_EXPIRY (R67). -/
def execHoldDeadlineExpiry (tag : Tag) (s : State) : Host.Outcome State Fault Refusal :=
  .next (s.event (State.deadlineExpires tag))

end Sys2Proof.Machine
end

