-- ==== Sys2Proof/Machine/Reception.lean ====
section
/-! DEFINITION. The commands of a peer frame on the line: its mark, its header, its end (07, 08, 10). -/

namespace Sys2Proof.Machine

/-! ### The frame mark (R111, R116, R117, R127) -/

/-- A peer frame starts. On a line that this node does not drive its mark is detected, and the frame is received in
TRAINING and UP; in UP the node is in LISTEN after it, with the silence timer held (R111, R116, R117). While this node
drives the line the frame meets this node's own: it is not received (R116, R121). A mark inside a peer frame is none
(12.1; assumption log 17). -/
def State.detectMark (s : State) : Option State :=
  if s.lnc.lineBusy then none
  else if s.ftx.frame.isSome then some s.lineContested
  else
    let t := s.lineTaken
    match s.lnc.link with
    | .training _ => some { t with frx := { t.frx with rx := some .marked } }
    | .up u => some ({ t with frx := { t.frx with rx := some .marked } }.setLink (.up u.toListenHeld))
    | .disabled => some t
    | .down _ => some t

/-- FRAME_MARK_DETECTED (R117). While RESET is asserted the peer's frame only occupies the line (assumption
log 6). -/
def execFrameMarkDetected (s : State) : Host.Outcome State Fault Refusal :=
  if s.inReset then .next s.lineTaken
  else .next (s.event State.detectMark)

/-! ### The header (R119, R127 to R129, R157, R165) -/

/-- JNL takes the header's rcv_ack, or its NAK with the reason recorded (R128, R129). -/
def State.headerAck (h : Header) (s : State) : State :=
  if h.nak then
    let t := s.count .nakReceived
    { t with frx := { t.frx with lastNak := h.reason } }.takeNak h.rcvAck
  else s.takeRcvAck h.rcvAck

/-- The first good DATA or CTRL header while UP confirms the session (R165). -/
def State.confirmSession (s : State) : State := { s with lnc := { s.lnc with unconfirmed := false } }

/-- A header with TURN sets consecutive missed turns to 0 (R118). -/
def State.headerTurn (h : Header) (s : State) : State :=
  match s.lnc.link with
  | .up u => if h.turn then s.setLink (.up { u with missed := 0 }) else s
  | _ => s

/-- A good DATA or CTRL header while UP (R127, R128). -/
def State.acksOfHeader (h : Header) (s : State) : State :=
  (((s.confirmSession.headerAck h).holdsAplAck h.aplAck).sweepAplAck h.aplAck).headerTurn h

/-- What a good header does by link state and type (the table of R127; R157, R182). -/
def State.actOnHeader (h : Header) (s : State) : State :=
  match s.lnc.link with
  | .up _ =>
    match h.type with
    | some .data => s.acksOfHeader h
    | some .ctrl => s.acksOfHeader h
    | some .hello => if h.reply then s else s.goDown .peerRetrain
    | some .start => s
    | none => s
  | _ => s

/-- The 20 header bytes of the frame in reception have arrived (R119, R127). -/
def State.receiveHeader (bytes : List Byte) (s : State) : Option State :=
  if s.frx.rx = some .marked ∧ bytes.length = 20 then
    if headerGood bytes then
      let t := s.count .framesIn
      some ({ t with frx := { t.frx with rx := some (.header (headerOf bytes)) } }.actOnHeader (headerOf bytes))
    else
      let t := s.count .hdrCrcErr
      some { t with frx := { t.frx with rx := some .badHeader } }
  else none

/-- HEADER_RECEIVED (R127). -/
def execHeaderReceived (bytes : List Byte) (s : State) : Host.Outcome State Fault Refusal :=
  .next (s.event (State.receiveHeader bytes))

/-! ### Acceptance of a DATA frame (R130 to R136) -/

/-- The records of a DATA frame; none when its header or body is malformed (R132). -/
def frameRecords (h : Header) (body : List Byte) : Option (List WireRecord) :=
  if 5 < h.lengthClass ∨ h.count = 0 ∨ Config.frameRecords < h.count then none
  else parseRecords h.count (body.take (bodyBytes h.lengthClass - 4))

/-- Received records as queued, numbered from a seq (R135). -/
def applyRecords (seq : Seq) : List WireRecord → List ApplyRec
  | [] => []
  | w :: ws => ⟨seq, w.kind, w.remoteAddr, w.length, w.mask, w.data, .waiting⟩ :: applyRecords (seq + 1) ws

/-- The new records fit the apply queue (R135). -/
def Apl.fits (a : Apl) (new : List WireRecord) : Bool :=
  decide (a.queue.length + new.length ≤ Config.applyRecords ∧
    applyBytesOf a.queue + (new.map fun w => ceil16 w.length).sum ≤ Config.applyBytes)

/-- Append new records; E moves past them and a pending NAK is cleared (R135). -/
def State.acceptRecords (new : List WireRecord) (s : State) : State :=
  { s with
    apl := { s.apl with queue := s.apl.queue ++ applyRecords s.frx.expected new }
    frx := { s.frx with expected := s.frx.expected + BitVec.ofNat 32 new.length }
    ftx := { s.ftx with pendingNak := none } }

/-- Steps 3 to 5 for the records of a frame with first seq F (R133 to R135). -/
def State.acceptInOrder (first : Seq) (recs : List WireRecord) (s : State) : State :=
  let e := s.frx.expected
  if precedes e first ∨ (first - e).toNat = 2 ^ 31 then s.raiseNak .gap
  else if atOrBefore (first + BitVec.ofNat 32 recs.length) e then s.count .duplicates
  else
    let new := recs.drop (e - first).toNat
    if s.apl.fits new then s.acceptRecords new else s.raiseNak .busy

/-- The five checks at the end of a DATA frame (R130). -/
def State.acceptData (h : Header) (body : List Byte) (s : State) : State :=
  if h.lengthClass ≤ 5 ∧ bodyGood h.lengthClass body = false then (s.count .bodyCrcErr).raiseNak .crc
  else
    match frameRecords h body with
    | none => (s.raise .linkProtocol).raiseNak .format
    | some recs => s.acceptInOrder h.firstSeq recs

/-! ### Training frames (R158 to R163) -/

/-- The peer's window is recorded (R159, R160). -/
def State.recordWindow (w : Nat) (s : State) : State := { s with lnc := { s.lnc with peerWindow := some w } }

/-- The primary decides at a good REPLY, applies the decision and waits in STARTING (R159, R161 to R163). -/
def State.takeReply (t : Training) (replyFresh : Bool) (b : HelloBody) (s : State) : State :=
  let d := s.sessionDecision replyFresh b
  let u := (s.recordWindow b.window).applySession d b.expected
  let u := { u with lnc := { u.lnc with unconfirmed := true } }
  u.setLink (.training { t with
    phase := .starting
    guard := some ⟨s.now, s.lnc.params.guard⟩
    hello := none
    decision := some d
    want := none })

/-- A good HELLO at the primary (R159). -/
def State.helloAtPrimary (t : Training) (h : Header) (b : HelloBody) (s : State) : State :=
  match h.reply, b.role with
  | true, .secondary => if t.phase = .calling then s.takeReply t h.fresh b else s
  | true, .primary => s
  | false, .primary => (s.recordWindow b.window).goDown .roleConflict
  | false, .secondary => s

/-- The secondary stores a HELLO and waits out the guard to answer it (R160). -/
def State.storeHello (t : Training) (b : HelloBody) (s : State) : State :=
  (s.recordWindow b.window).setLink (.training { t with
    phase := .replying
    storedE := some b.expected
    guard := some ⟨s.now, s.lnc.params.guard⟩
    want := none })

/-- A good HELLO at the secondary (R160). -/
def State.helloAtSecondary (t : Training) (h : Header) (b : HelloBody) (s : State) : State :=
  match h.reply, b.role with
  | false, .primary => s.storeHello t b
  | false, .secondary => s
  | true, _ => s

/-- A good START at the secondary: taken in REPLIED, ignored in WAITING and REPLYING (R160, R163). -/
def State.startAtSecondary (t : Training) (d : Decision) (s : State) : State :=
  match t.phase, t.storedE with
  | .replied, some e =>
    let u := s.applySession d e
    u.goUp (Turn.fresh.toGuard u.now u.lnc.params.guard)
  | _, _ => s

/-- The end of a training frame whose header and body are good (R158 to R160, R163). -/
def State.trainingFrame (t : Training) (h : Header) (body : List Byte) (s : State) : State :=
  match h.type with
  | some .hello =>
    match helloOf body with
    | none => s
    | some b =>
      match t.phase with
      | .calling => s.helloAtPrimary t h b
      | .starting => s.helloAtPrimary t h b
      | .waiting => s.helloAtSecondary t h b
      | .replying => s.helloAtSecondary t h b
      | .replied => s.helloAtSecondary t h b
  | some .start =>
    match decisionOf (body.getD 0 0) with
    | none => s
    | some d => s.startAtSecondary t d
  | some .data => s
  | some .ctrl => s
  | none => s

/-! ### The end of a frame (R117, R118, R130, R158) -/

/-- In LISTEN the line's return to idle starts the silence timer again from the full silence value (R117). -/
def State.restartSilence (s : State) : State :=
  match s.lnc.link with
  | .up u => if u.sub = .listen then s.setLink (.up (u.toListen s.now s.lnc.params.silence)) else s
  | _ => s

/-- The node is in LISTEN (R109). -/
def State.listening (s : State) : Bool :=
  match s.lnc.link with
  | .up u => decide (u.sub = .listen)
  | _ => false

/-- The line returns to idle: nothing is in reception, and in LISTEN the silence timer starts again (R117). -/
def State.lineReturns (s : State) : State :=
  { s.lineReleased with frx := { s.frx with rx := none } }.restartSilence

/-- A frame that carried TURN in a DATA or CTRL header hands over the line at its end (R118). -/
def State.handover (h : Header) (s : State) : State :=
  match s.lnc.link with
  | .up u => if h.turn then s.setLink (.up (u.toGuard s.now s.lnc.params.guard)) else s
  | _ => s

/-- What the end of a frame with a good header does by link state and type (R127, R130, R158). -/
def State.endOfFrame (h : Header) (rest : List Byte) (s : State) : State :=
  match s.lnc.link with
  | .up _ =>
    match h.type with
    | some .data => (s.acceptData h rest).handover h
    | some .ctrl => s.handover h
    | some .hello => s
    | some .start => s
    | none => s
  | .training t => if bodyGood 0 rest then s.trainingFrame t h rest else s
  | .disabled => s
  | .down _ => s

/-- The line returns to idle at the end of a frame whose mark this node did not detect, such as a peer frame that
met this node's frame (R121, R122): in LISTEN the silence timer starts again (R117), and a training frame that
waited for the idle line can start (R159). Elsewhere such an end has no effect. -/
def State.unheardEnd (s : State) : Option State :=
  if s.lnc.lineMet || s.listening then some s.lineReleased.restartSilence else none

/-- A peer frame ends; one that never had its 22nd byte is a frame with a bad header (R119, R130). -/
def State.receiveEnd (rest : List Byte) (s : State) : Option State :=
  if s.lnc.lineBusy then
    let t := s.lineReturns
    match s.frx.rx with
    | none => some t
    | some .marked => some (t.count .hdrCrcErr)
    | some .badHeader => some t
    | some (.header h) => some (t.endOfFrame h rest)
  else s.unheardEnd

/-- FRAME_END (R130). While RESET is asserted the line only becomes idle (assumption log 6). -/
def execFrameEnd (rest : List Byte) (s : State) : Host.Outcome State Fault Refusal :=
  if s.inReset then .next s.lineReleased
  else .next (s.event (State.receiveEnd rest))

end Sys2Proof.Machine
end

