-- ==== Sys2Proof/Machine/Resets.lean ====
section
/-! DEFINITION. The commands of the two reset lines: host bus reset (R19, R34, R73) and RESET (R35). -/

namespace Sys2Proof.Machine

/-- An outstanding entry at a host bus reset: UP entries are abandoned (R34). -/
def OutEntry.hostBusReset (e : OutEntry) : OutEntry :=
  match e.owner with
  | .up _ _ => { e with abandoned := true }
  | .apl _ => e
  | .swp _ => e

/-- What the assertion of host bus reset does (R34, R73). -/
def State.hostBusClear (s : State) : State :=
  { s with
    upi := { s.upi with intake := [], inFlight := [], stall := none, responses := [], hostReset := true }
    dnp := { s.dnp with outstanding := s.dnp.outstanding.map OutEntry.hostBusReset }
    hld := { holds := [] } }.raise .hostReset

/-- HOST_BUS_RESET (R34): HB_RST is asserted; a line asserted already changes nothing. While RESET is asserted
only the level of the line changes (assumption log 6). -/
def execHostBusReset (s : State) : Host.Outcome State Fault Refusal :=
  if s.inReset then .next { s with upi := { s.upi with hostReset := true } }
  else .next (s.event fun s => if s.upi.hostReset then none else some s.hostBusClear)

/-- HOST_BUS_RESET_RELEASE (R19): UPI accepts requests again. -/
def execHostBusResetRelease (s : State) : Host.Outcome State Fault Refusal :=
  let t := { s with upi := { s.upi with hostReset := false } }
  .next (t.event some)

/-- The part while EK_RSTN is asserted: every block in its state after RESET (R35). What the bus presents, the
level of HB_RST, a peer frame on the line and the queue of commands are not the part's (assumption log 5, 7). -/
def State.resetAsserted (s : State) : State :=
  { State.reset with
    upi := { State.reset.upi with presented := s.upi.presented, hostReset := s.upi.hostReset }
    lnc := { State.reset.lnc with lineBusy := s.lnc.lineBusy, lineMet := s.lnc.lineMet }
    inReset := true
    pending := s.pending }

/-- RESET (R35): EK_RSTN is asserted. -/
def execReset (s : State) : Host.Outcome State Fault Refusal := .next s.resetAsserted

/-- RESET_RELEASE (R35): EK_RSTN is released and the timebase starts at 0. -/
def execResetRelease (s : State) : Host.Outcome State Fault Refusal :=
  if s.inReset then .next ({ s with inReset := false, now := 0 }.settle) else .next s

end Sys2Proof.Machine
end

