-- ==== Sys2Proof/Machine/TrainingTimers.lean ====
section
/-! DEFINITION. The timer commands of link training and DOWN (R156, R159, R160, R163, R164). -/

namespace Sys2Proof.Machine

/-- The training context while the link is in TRAINING (R152). -/
def State.training (s : State) : Option Training :=
  match s.lnc.link with
  | .training t => some t
  | _ => none

/-- The retrain timer expires in DOWN: the link enters TRAINING (R156). -/
def State.expireRetrain (s : State) : Option State :=
  match s.lnc.link with
  | .down d => some (s.reach d.due).enterTraining
  | _ => none

/-- RETRAIN_TIMER_EXPIRY (R156). -/
def execRetrainTimerExpiry (s : State) : Host.Outcome State Fault Refusal := .next (s.event State.expireRetrain)

/-- The hello timer expires in CALLING: another HELLO is asked for (R159). -/
def State.expireHello (s : State) : Option State :=
  match s.training with
  | none => none
  | some t =>
    match t.phase, t.hello with
    | .calling, some d =>
      some ((s.reach d.due).setLink (.training { t with hello := none, want := some .hello }))
    | _, _ => none

/-- HELLO_TIMER_EXPIRY (R159). -/
def execHelloTimerExpiry (s : State) : Host.Outcome State Fault Refusal := .next (s.event State.expireHello)

/-- The training guard of a phase expires: a training frame is asked for (R160, R163). -/
def State.expireTrainingGuard (phase : Phase) (want : TrainFrame) (s : State) : Option State :=
  match s.training with
  | none => none
  | some t =>
    match t.guard with
    | none => none
    | some g =>
      if t.phase = phase then
        some ((s.reach g.due).setLink (.training { t with guard := none, want := some want }))
      else none

/-- REPLY_GUARD_EXPIRY (R160). -/
def execReplyGuardExpiry (s : State) : Host.Outcome State Fault Refusal :=
  .next (s.event (State.expireTrainingGuard .replying .reply))

/-- START_GUARD_EXPIRY (R163). -/
def execStartGuardExpiry (s : State) : Host.Outcome State Fault Refusal :=
  .next (s.event (State.expireTrainingGuard .starting .start))

/-- The training timer expires in TRAINING: DOWN with cause TRAIN_TIMEOUT (R164). -/
def State.expireTraining (s : State) : Option State :=
  match s.training with
  | none => none
  | some t => some ((s.reach t.limit.due).goDown .trainTimeout)

/-- TRAINING_TIMER_EXPIRY (R164). -/
def execTrainingTimerExpiry (s : State) : Host.Outcome State Fault Refusal := .next (s.event State.expireTraining)

end Sys2Proof.Machine
end

