-- ==== Sys2Proof/Machine/Dispatch.lean ====
section
/-! DEFINITION. One arm per command: each calls its meaning. -/

namespace Sys2Proof.Machine

/-- The effect of a command on everything but the queue. -/
def exec (i : Instr) (s : State) : Host.Outcome State Fault Refusal :=
  match i with
  -- the memory path
  | .upstreamRequest r => Sys2Proof.Machine.execUpstreamRequest r s
  | .malformedHead => Sys2Proof.Machine.execMalformedHead s
  | .upGrant itag => Sys2Proof.Machine.execUpGrant itag s
  | .aplGrant itag => Sys2Proof.Machine.execAplGrant itag s
  | .swpGrant itag => Sys2Proof.Machine.execSwpGrant itag s
  | .downstreamResponse itag st data => Sys2Proof.Machine.execDownstreamResponse itag st data s
  | .upstreamResponse tag => Sys2Proof.Machine.execUpstreamResponse tag s
  | .stallTimerExpiry => Sys2Proof.Machine.execStallTimerExpiry s
  -- the reset lines
  | .hostBusReset => Sys2Proof.Machine.execHostBusReset s
  | .hostBusResetRelease => Sys2Proof.Machine.execHostBusResetRelease s
  | .reset => Sys2Proof.Machine.execReset s
  | .holdDeadlineExpiry tag => Sys2Proof.Machine.execHoldDeadlineExpiry tag s
  -- this node's turns on the line
  | .frameOpportunity => Sys2Proof.Machine.execFrameOpportunity s
  | .frameCompleted => Sys2Proof.Machine.execFrameCompleted s
  | .collision => Sys2Proof.Machine.execCollision s
  | .guardTimerExpiry => Sys2Proof.Machine.execGuardTimerExpiry s
  | .dwellTimerExpiry => Sys2Proof.Machine.execDwellTimerExpiry s
  | .silenceTimerExpiry => Sys2Proof.Machine.execSilenceTimerExpiry s
  -- the peer's frames
  | .frameMarkDetected => Sys2Proof.Machine.execFrameMarkDetected s
  | .headerReceived bytes => Sys2Proof.Machine.execHeaderReceived bytes s
  | .frameEnd rest => Sys2Proof.Machine.execFrameEnd rest s
  -- training
  | .retrainTimerExpiry => Sys2Proof.Machine.execRetrainTimerExpiry s
  | .helloTimerExpiry => Sys2Proof.Machine.execHelloTimerExpiry s
  | .replyGuardExpiry => Sys2Proof.Machine.execReplyGuardExpiry s
  | .startGuardExpiry => Sys2Proof.Machine.execStartGuardExpiry s
  | .trainingTimerExpiry => Sys2Proof.Machine.execTrainingTimerExpiry s
  -- the management port
  | .nop t => Sys2Proof.Machine.execNop t s
  | .portIdent t => Sys2Proof.Machine.execPortIdent t s
  | .regionSet t => Sys2Proof.Machine.execRegionSet t s
  | .regionEnable t => Sys2Proof.Machine.execRegionEnable t s
  | .regionDisable t => Sys2Proof.Machine.execRegionDisable t s
  | .regionResync t => Sys2Proof.Machine.execRegionResync t s
  | .regionMode t => Sys2Proof.Machine.execRegionMode t s
  | .regionQuery t => Sys2Proof.Machine.execRegionQuery t s
  | .linkSet t => Sys2Proof.Machine.execLinkSet t s
  | .linkEnable t => Sys2Proof.Machine.execLinkEnable t s
  | .linkDisable t => Sys2Proof.Machine.execLinkDisable t s
  | .linkRenew t => Sys2Proof.Machine.execLinkRenew t s
  | .linkQuery t => Sys2Proof.Machine.execLinkQuery t s
  | .journalSet t => Sys2Proof.Machine.execJournalSet t s
  | .journalQuery t => Sys2Proof.Machine.execJournalQuery t s
  | .eventQuery t => Sys2Proof.Machine.execEventQuery t s
  | .eventAck t => Sys2Proof.Machine.execEventAck t s
  | .eventEnable t => Sys2Proof.Machine.execEventEnable t s
  | .counterQuery t => Sys2Proof.Machine.execCounterQuery t s
  | .counterZero t => Sys2Proof.Machine.execCounterZero t s
  | .undefinedRequest t => Sys2Proof.Machine.execUndefinedRequest t s
  | .resetRelease => Sys2Proof.Machine.execResetRelease s

end Sys2Proof.Machine
end

