-- ==== Sys2Proof/Machine/Step.lean ====
section
/-! DEFINITION. One step: the command at the front of the queue, or one microsecond of the timebase when the queue
is empty (assumption log 2). -/

namespace Sys2Proof.Machine

/-- One microsecond passes: the timebase counts it, unless RESET holds the part (00_scope, Time; assumption
log 2). -/
def State.tick (s : State) : State := if s.inReset then s else { s with now := s.now + 1 }

/-- The command at the front runs on the state with the queue's rest; on an empty queue time passes. -/
def step (s : State) : Host.Outcome State Fault Refusal :=
  match s.pending with
  | [] => .next s.tick
  | c :: rest => exec c { s with pending := rest }

/-- The state with the command a table word spells at the front of its queue. No row of the table gives bits, so
no word spells one. -/
def State.withFetchWord (s : State) (nbits w : Nat) : State :=
  match decodeTableWord nbits w with
  | none => s
  | some c => { s with pending := c :: s.pending }

end Sys2Proof.Machine
end

