-- ==== Sys2Proof/Safety.lean ====
section
/-! DEFINITION. What a sound state is: the laws of the device and the ranges the rules give, each as a check on a
state. Every step is to keep each of them. -/

namespace Sys2Proof.Machine

/-! ### The journal (R38, R39, R41) -/

/-- Seqs run consecutively from a seq on. -/
def seqRun (a : Seq) : List Seq → Bool
  | [] => true
  | x :: xs => decide (x = a) && seqRun (a + 1) xs

/-- Law 1: the records carry consecutive seqs in list order, the newest having next seq - 1 (R39). -/
def Jnl.ordered (j : Jnl) : Bool :=
  seqRun (j.nextSeq - BitVec.ofNat 32 j.records.length) (j.records.map Record.seq)

/-- Law 2: at most 2048 records and 131072 bytes (R41). -/
def Jnl.withinLimits (j : Jnl) : Bool :=
  decide (j.records.length ≤ Config.journalRecords ∧ j.bytes ≤ Config.journalBytes)

/-- No record is SENT. -/
def noneSent (rs : List Record) : Bool := rs.all fun r => decide (r.state ≠ .sent)

/-- The SENT records form the oldest part of a list (R39). -/
def sentFirst : List Record → Bool
  | [] => true
  | r :: rs => if r.state = .sent then sentFirst rs else noneSent rs

/-- Law 3: the SENT records form the oldest part of the journal, at most a window of them; none is SENT while the
link is DISABLED (R39, R55). -/
def State.sentLaw (s : State) : Bool :=
  sentFirst s.jnl.records && decide (s.jnl.sentCount ≤ s.lnc.params.window) &&
    (decide (s.lnc.link ≠ .disabled) || noneSent s.jnl.records)

/-- Law 11: no record's send count exceeds 8 (R102). -/
def Jnl.sendCountsWithin (j : Jnl) : Bool := j.records.all fun r => decide (r.sendCount ≤ Config.sendLimit)

/-- A record has the form of its kind (R38, R44, R45, R50, R51): a WRITE has 1 to 256 bytes in one page and a mask
of that length if any; a SWEEP has a whole chunk, absent while FILLING; a VOID has nothing. Only a SWEEP is
FILLING, and only a PENDING WRITE is open (R46). -/
def Record.formed (r : Record) : Bool :=
  match r.kind with
  | .write =>
    decide (1 ≤ r.length ∧ r.length ≤ Config.maxLength ∧ r.data.length = r.length ∧ r.state ≠ .filling ∧
      pageOffset r.localAddr + r.length ≤ Config.pageBytes ∧
      pageOffset r.remoteAddr + r.length ≤ Config.pageBytes) &&
      r.mask.all (fun m => decide (m.length = r.length)) && (!r.isOpen || decide (r.state = .pending))
  | .sweep =>
    decide (r.length = Config.chunkBytes ∧ r.mask = none ∧ r.isOpen = false ∧
      r.data.length = (if r.state = .filling then 0 else Config.chunkBytes) ∧
      pageOffset r.localAddr + r.length ≤ Config.pageBytes ∧
      pageOffset r.remoteAddr + r.length ≤ Config.pageBytes)
  | .void => decide (r.length = 0 ∧ r.mask = none ∧ r.data = [] ∧ r.isOpen = false ∧ r.state ≠ .filling)

/-- Every journal record has the form of its kind, and a sweep reads whole chunks: next chunk is a multiple of
256 below or at the end, which is at most 2^40 (R38, R80). -/
def State.recordsFormed (s : State) : Bool :=
  s.jnl.records.all Record.formed &&
    s.swp.engine.ctx?.all fun c =>
      decide (c.nextChunk % Config.chunkBytes = 0 ∧ c.endAddr % Config.chunkBytes = 0 ∧
        c.nextChunk ≤ c.endAddr ∧ c.endAddr ≤ 2 ^ 40)

/-! ### The region table and the settings (R1, R5, R6, R37, R153) -/

/-- Every entry's fields lie in their ranges (R1, R2, R4). -/
def Rgt.inRange (g : Rgt) : Bool := (List.finRange 16).all fun r => g.entries[r].fields.inRange

/-- A TARGET entry is DISABLED or ACTIVE (R6). -/
def Rgt.targetStates (g : Rgt) : Bool :=
  (List.finRange 16).all fun r =>
    decide (g.entries[r].fields.direction = .source) || decide (g.entries[r].state = .disabled) ||
      decide (g.entries[r].state = .active)

/-- No two entries that are not DISABLED share a page (R5). -/
def Rgt.disjoint (g : Rgt) : Bool :=
  (List.finRange 16).all fun r => (List.finRange 16).all fun q =>
    decide (r = q) || decide (g.entries[r].state = .disabled) || decide (g.entries[q].state = .disabled) ||
      !g.entries[r].fields.sharesPage g.entries[q].fields

/-- The region table as the rules keep it (R1, R5, R6). -/
def Rgt.sound (g : Rgt) : Bool := g.inRange && g.targetStates && g.disjoint

/-- The journal settings lie in their ranges, the low mark below the high mark (R37, R175). -/
def Jnl.settingsInRange (j : Jnl) : Bool :=
  decide (1 ≤ j.highMark ∧ j.highMark ≤ 100 ∧ j.lowMark < j.highMark ∧ j.reserveDesc ≤ 1024 ∧
    j.reserveBytes ≤ 65536)

/-- The loadable settings lie in their ranges (R37, R153). -/
def State.settingsInRange (s : State) : Bool := s.lnc.params.inRange && s.jnl.settingsInRange

/-! ### The sweep (R77) -/

/-- Region indices that are queued or swept. -/
def Swp.regions (w : Swp) : List RegionIx := (w.engine.ctx?.map SweepCtx.region).toList ++ w.queue

/-- Law 7: queued and swept indices are distinct, and they are exactly the SOURCE regions in RESYNCING, which are
all the regions in RESYNCING (R77). -/
def State.sweepLaw (s : State) : Bool :=
  decide s.swp.regions.Nodup &&
    (List.finRange 16).all fun r =>
      decide (r ∈ s.swp.regions ↔ (s.region r).state = .resyncing) &&
        (decide ((s.region r).state ≠ .resyncing) || decide ((s.region r).fields.direction = .source))

/-! ### The downstream port (R24) -/

/-- Internal tags are unique among outstanding entries, and each requester keeps to its limit (R24). -/
def Dnp.outstandingLaw (d : Dnp) : Bool :=
  decide (d.outstanding.map OutEntry.itag).Nodup && decide (d.charged .up ≤ Config.upLimit) &&
    decide (d.charged .apl ≤ Config.aplLimit) && decide (d.charged .swp ≤ Config.swpLimit)

/-! ### The upstream side (R19, R62; laws 8 and 9) -/

/-- The tag an outstanding entry answers by itself: an UP entry that is not abandoned and whose response HLD does
not hold. -/
def OutEntry.ownTag (e : OutEntry) : Option Tag :=
  match e.owner with
  | .up tag path => if e.abandoned || path = .captured true then none else some tag
  | .apl _ => none
  | .swp _ => none

/-- The tag whose hold an outstanding entry will give its local status (R31). -/
def OutEntry.heldTag (e : OutEntry) : Option Tag :=
  match e.owner with
  | .up tag path => if !e.abandoned && path = .captured true then some tag else none
  | .apl _ => none
  | .swp _ => none

/-- Where the tags in flight are: in the intake queue, at an outstanding entry, in the hold table, or at a response
not yet sent. -/
def State.tagPlaces (s : State) : List Tag :=
  s.upi.intake.map UpRequest.tag ++ s.dnp.outstanding.filterMap OutEntry.ownTag ++ s.hld.holds.map Hold.tag
    ++ s.upi.responses.map UpResponse.tag

/-- Laws 8 and 9: every tag in flight is in exactly one place, so it gets exactly one response, and no two holds
share a tag; the holds without a local status are those whose entry is outstanding (R19, R32, R62, R65). -/
def State.tagLaw (s : State) : Bool :=
  decide s.upi.inFlight.Nodup && decide (s.upi.inFlight.Perm s.tagPlaces) &&
    decide ((s.dnp.outstanding.filterMap OutEntry.heldTag).Perm
      ((s.hld.holds.filter fun h => decide (h.localStatus = none)).map Hold.tag)) &&
    decide (s.upi.intake.length ≤ Config.intakeDepth)

/-- No hold in the table has its response fixed: such a hold has left the table (R64). -/
def Hld.waitingLaw (h : Hld) : Bool := h.holds.all fun k => k.verdict.isNone

/-! ### Apply (R141, R142) -/

/-- Law 5: the apply queue holds the records from A up to E - 1 in seq order, within its limits (R142). -/
def State.applyQueueLaw (s : State) : Bool :=
  seqRun s.apl.applied (s.apl.queue.map ApplyRec.seq) &&
    decide (s.frx.expected = s.apl.applied + BitVec.ofNat 32 s.apl.queue.length) &&
    decide (s.apl.queue.length ≤ Config.applyRecords) && decide (applyBytesOf s.apl.queue ≤ Config.applyBytes)

/-- The number of records from A up to the issue point. -/
def Apl.issued (a : Apl) : Nat := (a.issue - a.applied).toNat

/-- The issue point lies at or after A and at or before E; the records before it are IN_FLIGHT or DONE, those from
it on WAITING (R141). -/
def Apl.issueLaw (a : Apl) : Bool :=
  decide (a.issued ≤ a.queue.length) &&
    ((a.queue.take a.issued).all fun r => decide (r.state ≠ .waiting)) &&
    (a.queue.drop a.issued).all fun r => decide (r.state = .waiting)

/-- What an outstanding entry of APL and its in-flight entry share: the internal tag, the seq, and whether a NEW
session has abandoned the one and orphaned the other (R36, R150). -/
def OutEntry.aplPart (e : OutEntry) : Option (ITag × Seq × Bool) :=
  match e.owner with
  | .apl seq => some (e.itag, seq, e.abandoned)
  | .up _ _ => none
  | .swp _ => none

/-- The in-flight list has one entry for each APL entry outstanding at DNP; those not orphaned are the IN_FLIGHT
records of the queue (R141). -/
def State.inFlightLaw (s : State) : Bool :=
  decide (s.dnp.outstanding.filterMap OutEntry.aplPart =
      s.apl.inFlight.map fun e => (e.itag, e.seq, e.orphaned)) &&
    decide ((s.apl.inFlight.filter fun e => !e.orphaned).map AplEntry.seq =
      (s.apl.queue.filter fun r => decide (r.state = .inFlight)).map ApplyRec.seq)

/-- What the rules keep of the apply engine (R141, R142). -/
def State.applyLaw (s : State) : Bool := s.applyQueueLaw && s.apl.issueLaw && s.inFlightLaw

/-! ### The line (law 12; R109, R117) -/

/-- Law 12: the part drives the line only in TRAINING with HELLO or START, or in UP and HOLD with DATA or CTRL, and
never while a detected peer frame is on it; a peer frame is on the line as detected or as met, not both; while a peer
frame is on the line an UP node is in LISTEN with its silence timer held; a frame is received only in TRAINING or UP;
under RESET the line is not driven (R105, R117, R127). -/
def State.lineLaw (s : State) : Bool :=
  (match s.ftx.frame, s.lnc.link with
    | none, _ => true
    | some f, .training _ => !s.lnc.lineBusy && (decide (f.type = .hello) || decide (f.type = .start))
    | some f, .up u =>
      !s.lnc.lineBusy && decide (u.sub = .hold) && (decide (f.type = .data) || decide (f.type = .ctrl))
    | some _, .disabled => false
    | some _, .down _ => false) &&
  (match s.lnc.link with
    | .up u => !s.lnc.lineBusy || (decide (u.sub = .listen) && decide (u.silence = .held))
    | _ => true) &&
  (s.frx.rx.isNone || (s.lnc.lineBusy && s.lnc.link.joined)) &&
  !(s.lnc.lineBusy && s.lnc.lineMet) &&
  (!s.inReset || (decide (s.lnc.link = .disabled) && s.frx.rx.isNone))

/-- Which turn timers run in which sub-state, and the bounds of the counts: the guard in GUARD only, the dwell in
HOLD only and only before the first frame of the turn with nothing to send, the silence timer in LISTEN only
(R109, R114). -/
def State.turnLaw (s : State) : Bool :=
  match s.lnc.link with
  | .up u =>
    (match u.sub with
      | .hold => u.guard.isNone && decide (u.silence = .stopped) &&
          (u.dwell.isNone || (decide (u.frames = 0) && s.ftx.frame.isNone && !s.somethingToSend))
      | .listen => u.guard.isNone && u.dwell.isNone && decide (u.silence ≠ .stopped)
      | .guard => u.guard.isSome && u.dwell.isNone && decide (u.silence = .stopped)) &&
      decide (u.frames ≤ s.lnc.params.burst) && decide (u.missed < Config.missedLimit) &&
      decide (u.collisions < Config.collisionLimit)
  | _ => true

/-! ### The STALL wait (R22, R23) -/

/-- A head in STALL has a running stall timer that has not expired (R22, R23). -/
def State.stallLaw (s : State) : Bool :=
  s.stallRegion.isNone || s.upi.stall.any fun t => !t.expired

end Sys2Proof.Machine
end

