-- ==== Sys2Proof/WellFormed.lean ====
section
/-! DEFINITION. Which commands are well formed: what their operands must be, whatever the state. -/

namespace Sys2Proof

/-- An SPI transaction's incomplete last byte has fewer than 8 bits (R167). -/
def Transaction.wellFormed (t : Transaction) : Bool := decide (t.tail.length < 8)

/-- The operand checks of each command. A header is 20 bytes (12_formats, 12.1); a transaction's tail is an
incomplete byte (R167); an UNDEFINED_REQUEST carries none of the 20 codes (R169). Every other operand is well
formed by its type; a malformed upstream request is a request like any other (R18). -/
def Instr.wellFormed : Instr → Bool
  | .upstreamRequest _ => true
  | .malformedHead => true
  | .upGrant _ => true
  | .aplGrant _ => true
  | .swpGrant _ => true
  | .downstreamResponse _ _ _ => true
  | .upstreamResponse _ => true
  | .stallTimerExpiry => true
  | .hostBusReset => true
  | .hostBusResetRelease => true
  | .reset => true
  | .holdDeadlineExpiry _ => true
  | .frameOpportunity => true
  | .frameCompleted => true
  | .collision => true
  | .guardTimerExpiry => true
  | .dwellTimerExpiry => true
  | .silenceTimerExpiry => true
  | .frameMarkDetected => true
  | .headerReceived bytes => decide (bytes.length = 20)
  | .frameEnd _ => true
  | .retrainTimerExpiry => true
  | .helloTimerExpiry => true
  | .replyGuardExpiry => true
  | .startGuardExpiry => true
  | .trainingTimerExpiry => true
  | .nop t => t.wellFormed
  | .portIdent t => t.wellFormed
  | .regionSet t => t.wellFormed
  | .regionEnable t => t.wellFormed
  | .regionDisable t => t.wellFormed
  | .regionResync t => t.wellFormed
  | .regionMode t => t.wellFormed
  | .regionQuery t => t.wellFormed
  | .linkSet t => t.wellFormed
  | .linkEnable t => t.wellFormed
  | .linkDisable t => t.wellFormed
  | .linkRenew t => t.wellFormed
  | .linkQuery t => t.wellFormed
  | .journalSet t => t.wellFormed
  | .journalQuery t => t.wellFormed
  | .eventQuery t => t.wellFormed
  | .eventAck t => t.wellFormed
  | .eventEnable t => t.wellFormed
  | .counterQuery t => t.wellFormed
  | .counterZero t => t.wellFormed
  | .undefinedRequest t => t.wellFormed && !(t.bytes.head?.any fun c => requestCodes.contains c)
  | .resetRelease => true

end Sys2Proof
end

