-- ==== Sys2Proof/Certificates/Slice0/Obligations.lean ====
section
/-! DEFINITION. The statements for the provers. Three operations of the model stand in many of them, each written out
in one: `State.settle`, what follows an event at once (SettleIsItsSixReactions, SettleLeavesTheseBlocks);
`State.setRecords`, a change of the journal with its water marks (WaterMarksFollowTheJournal); `Lnc.fallen`, the link
after an entry to DOWN (TrainingTimersExpire). -/

open Sys2Proof Sys2Proof.Machine

/-! ### The queue and the step -/

/-- A step runs the command at the front of the queue on the state with the queue's rest. On an empty queue it is one
microsecond of the timebase, and nothing while RESET is asserted (DESIGN CHOICE, assumption log 2). -/
def Obligations.StepRunsTheFrontCommandOrTicks : Prop :=
  (∀ (c : Instr) (s : State), step { s with pending := c :: s.pending } = exec c s) ∧
  (∀ s : State, s.pending = [] → step s = .next { s with now := if s.inReset then s.now else s.now + 1 })

/-- Every command answers a next state in every state, and leaves the rest of the queue alone. That no command stops
the machine is DEDUCED (assumption log 22), and so is that a command whose event cannot happen changes nothing
(assumption log 1). -/
def Obligations.EveryCommandAnswersNext : Prop :=
  ∀ (c : Instr) (s : State), ∃ t : State, exec c s = .next t ∧ t.pending = s.pending

/-! ### RESET -/

/-- The state after RESET has the values the rules give (R1, R17, R35, R37, R62, R77, R80, R94, R109, R126, R141,
R152, R153, R168, R176, R177, R179), and keeps every law of Safety. -/
def Obligations.ResetValues : Prop :=
  let s := State.reset
  (s.upi.intake = [] ∧ s.upi.inFlight = [] ∧ s.upi.stall = none ∧ s.upi.responses = []) ∧
  (∀ r : RegionIx, (s.region r).state = .disabled ∧ (s.region r).captured = 0 ∧ (s.region r).strays = 0 ∧
    (s.region r).applied = 0 ∧
    (s.region r).fields = ⟨0, 1, .source, .async, 0, .stall, 1000, .fail, .pass, false⟩) ∧
  (s.dnp.outstanding = [] ∧ s.dnp.rotation = .swp) ∧
  (s.jnl.records = [] ∧ s.jnl.nextSeq = 0 ∧ s.jnl.latch = false ∧ s.jnl.highMark = 75 ∧ s.jnl.lowMark = 50 ∧
    s.jnl.reserveDesc = 128 ∧ s.jnl.reserveBytes = 16384) ∧
  (s.hld.holds = [] ∧ s.swp.queue = [] ∧ s.swp.engine = .idle ∧ s.ftx.pendingNak = none ∧ s.ftx.frame = none) ∧
  (s.lnc.link = .disabled ∧ s.lnc.lastCause = none ∧ s.lnc.fresh = true ∧ s.lnc.unconfirmed = false ∧
    s.lnc.peerWindow = none ∧ s.lnc.params = ⟨.primary, 64, 20, 100, 500, 4, 512, 200, 20, 5⟩) ∧
  (s.frx.expected = 0 ∧ s.frx.rx = none ∧ s.frx.lastNak = none) ∧
  (s.apl.applied = 0 ∧ s.apl.queue = [] ∧ s.apl.issue = 0 ∧ s.apl.inFlight = []) ∧
  (s.mgp.response = ⟨.noneYet, []⟩ ∧ s.mgp.ekInt = false ∧
    ∀ k : Fin 16, s.mgp.events[k] = ⟨false, 0⟩ ∧ s.mgp.divergedMask[k] = false ∧ s.mgp.enableMask[k] = false ∧
      s.mgp.counters[k] = 0) ∧
  s.now = 0 ∧
  (s.jnl.ordered = true ∧ s.jnl.withinLimits = true ∧ s.sentLaw = true ∧ s.jnl.sendCountsWithin = true ∧
    s.recordsFormed = true ∧ s.rgt.sound = true ∧ s.settingsInRange = true ∧ s.sweepLaw = true ∧
    s.dnp.outstandingLaw = true ∧ s.tagLaw = true ∧ s.hld.waitingLaw = true ∧ s.applyLaw = true ∧ s.lineLaw = true ∧
    s.turnLaw = true ∧ s.stallLaw = true)

/-- RESET returns every block to its state after RESET whatever the state was; only what the part does not own
stays: the requests the bus presents, the level of HB_RST and the peer's frame on the line (assumption log 5, 7).
While it is asserted no command moves the part: only the levels of the lines around it follow (R35, R167; assumption
log 6). Its release starts the timebase at 0 and changes no other block; a release without RESET changes nothing
(DEDUCED, assumption log 1). -/
def Obligations.ResetFromItsAssertionToItsRelease : Prop :=
  (∀ s : State, exec .reset s = .next
    { State.reset with
      upi := { State.reset.upi with presented := s.upi.presented, hostReset := s.upi.hostReset }
      lnc := { State.reset.lnc with lineBusy := s.lnc.lineBusy, lineMet := s.lnc.lineMet }
      inReset := true
      pending := s.pending }) ∧
  (∀ (c : Instr) (s : State), s.inReset = true → c ≠ .reset → c ≠ .resetRelease →
    exec c s = .next
      (match c with
      | .upstreamRequest r => { s with upi := { s.upi with presented := s.upi.presented ++ [r] } }
      | .hostBusReset => { s with upi := { s.upi with hostReset := true } }
      | .hostBusResetRelease => { s with upi := { s.upi with hostReset := false } }
      | .frameMarkDetected => { s with lnc := { s.lnc with lineBusy := true, lineMet := false } }
      | .frameEnd _ => { s with lnc := { s.lnc with lineBusy := false, lineMet := false } }
      | _ => s)) ∧
  (∀ s : State, s.inReset = true → exec .resetRelease s = .next { s with inReset := false, now := 0 }.settle) ∧
  (∀ s : State, s.inReset = false → exec .resetRelease s = .next s)

/-! ### What follows an event at once -/

/-- What follows an event at once never touches the journal, the outstanding table, the holds, the receiver, the
responses, the link parameters, the timebase or the queue. -/
def Obligations.SettleLeavesTheseBlocks : Prop :=
  ∀ s : State,
    s.settle.jnl = s.jnl ∧ s.settle.dnp = s.dnp ∧ s.settle.hld = s.hld ∧ s.settle.frx = s.frx ∧
    s.settle.now = s.now ∧ s.settle.inReset = s.inReset ∧ s.settle.pending = s.pending ∧
    s.settle.upi.responses = s.upi.responses ∧ s.settle.upi.sent = s.upi.sent ∧
    s.settle.upi.hostReset = s.upi.hostReset ∧ s.settle.lnc.params = s.lnc.params ∧
    s.settle.lnc.fresh = s.lnc.fresh ∧ s.settle.lnc.unconfirmed = s.lnc.unconfirmed ∧
    s.settle.lnc.lastCause = s.lnc.lastCause ∧ s.settle.lnc.peerWindow = s.lnc.peerWindow ∧
    s.settle.lnc.lineBusy = s.lnc.lineBusy ∧ s.settle.lnc.lineMet = s.lnc.lineMet ∧
    s.settle.ftx.pendingNak = s.ftx.pendingNak

/-- What follows an event at once is six reactions, in this order (their order is DEDUCED, assumption log 15):
presented requests are accepted one by one while there is room, the tag is not in flight and host bus reset is not
asserted (R19); the STALL wait of the head (StallTimerRunsAndExpires); VOID and unmapped records are finished from the
issue point on, an unmapped one with UNMAPPED and APPLY_UNMAPPED, and A moves over the DONE records at the front (R143,
R144, R147); an idle engine takes the head of the resync queue while the link is UP, with next chunk at the region's
first byte and end after its last (R81); in HOLD the dwell timer is discarded once there is something to send (R114); a
training frame waits for the idle line (WantedTrainingFrameStarts). When nothing is due, nothing follows. -/
def Obligations.SettleIsItsSixReactions : Prop :=
  (∀ s : State, s.settle = s.acceptPresented.stallCheck.applyRun.sweepTake.dwellCheck.sendWanted) ∧
  (∀ s : State,
    (s.upi.presented = [] → s.acceptPresented = s) ∧
    (∀ r rs, s.upi.presented = r :: rs →
      (s.upi.intake.length < 8 → r.tag ∉ s.upi.inFlight → s.upi.hostReset = false →
        s.acceptPresented = State.acceptPresented { s with upi := { s.upi with
          presented := rs, intake := s.upi.intake ++ [r], inFlight := s.upi.inFlight ++ [r.tag] } }) ∧
      (8 ≤ s.upi.intake.length ∨ r.tag ∈ s.upi.inFlight ∨ s.upi.hostReset = true → s.acceptPresented = s))) ∧
  (∀ s : State, s.applyLaw = true →
    let issued := (s.apl.issue - s.apl.applied).toNat
    let waiting := s.apl.queue.drop issued
    let finished := waiting.takeWhile fun r => decide (r.kind = .void) || decide (s.lookupTarget r.remoteAddr = none)
    let queue := s.apl.queue.take issued ++ (finished.map fun r => { r with state := .done }) ++
      waiting.drop finished.length
    let run := queue.takeWhile fun r => decide (r.state = .done)
    s.applyRun = { s with
      apl := { s.apl with
        queue := queue.drop run.length
        applied := s.apl.applied + BitVec.ofNat 32 run.length
        issue := s.apl.issue + BitVec.ofNat 32 finished.length }
      mgp := Nat.repeat (fun m => (m.count .unmapped).raise .applyUnmapped)
        (finished.countP fun r => decide (r.kind ≠ .void)) s.mgp }) ∧
  (∀ s : State,
    (∀ x rest, s.swp.engine = .idle → s.swp.queue = x :: rest → s.linkUp = true →
      let f := (s.region x).fields
      s.sweepTake = { s with
        swp := ⟨rest, .reading ⟨x, f.basePage * 4096, (f.basePage + f.size) * 4096, [], none⟩⟩ }) ∧
    (s.swp.engine ≠ .idle ∨ s.swp.queue = [] ∨ s.linkUp = false → s.sweepTake = s)) ∧
  (∀ s : State,
    (∀ u, s.lnc.link = .up u → u.sub = .hold → u.dwell ≠ none → s.somethingToSend = true →
      s.dwellCheck = { s with lnc := { s.lnc with link := .up { u with dwell := none } } }) ∧
    ((∀ u, s.lnc.link = .up u → u.sub = .hold → u.dwell ≠ none → s.somethingToSend = false) → s.dwellCheck = s)) ∧
  (∀ s : State,
    (∀ r rs, s.upi.presented = r :: rs → s.upi.accepts r = false) →
    s.stallLaw = true →
    s.classifyIssue ≠ .void → s.classifyIssue ≠ .unmapped → (∀ r rs, s.apl.queue = r :: rs → r.state ≠ .done) →
    (s.swp.queue = [] ∨ s.swp.engine ≠ .idle ∨ s.linkUp = false) →
    (∀ u, s.lnc.link = .up u → u.sub = .hold → u.dwell ≠ none → s.somethingToSend = false) →
    (∀ t, s.lnc.link = .training t → t.want = none ∨ s.lineIdle = false) →
    s.settle = s)

/-! ### The memory path -/

/-- A presented request is accepted when the queue has room, its tag is not in flight and host bus reset is not
asserted; otherwise it stays presented, behind those presented before it (R19, R20). -/
def Obligations.UpstreamRequestIsAcceptedOrWaits : Prop :=
  ∀ (r : UpRequest) (s : State), s.inReset = false →
    (s.upi.presented = [] →
      s.upi.intake.length < 8 → r.tag ∉ s.upi.inFlight → s.upi.hostReset = false →
      exec (.upstreamRequest r) s = .next (State.settle { s with upi := { s.upi with
        intake := s.upi.intake ++ [r], inFlight := s.upi.inFlight ++ [r.tag] } })) ∧
    (s.upi.presented = [] →
      8 ≤ s.upi.intake.length ∨ r.tag ∈ s.upi.inFlight ∨ s.upi.hostReset = true →
      ∃ t : State, exec (.upstreamRequest r) s = .next t ∧ t.upi.presented = [r] ∧ t.upi.intake = s.upi.intake ∧
        t.upi.inFlight = s.upi.inFlight) ∧
    (∀ p ps, s.upi.presented = p :: ps →
      8 ≤ s.upi.intake.length ∨ p.tag ∈ s.upi.inFlight ∨ s.upi.hostReset = true →
      ∃ t : State, exec (.upstreamRequest r) s = .next t ∧ t.upi.presented = p :: ps ++ [r] ∧
        t.upi.intake = s.upi.intake ∧ t.upi.inFlight = s.upi.inFlight)

/-- A malformed head is answered FAULT and leaves the queue with no downstream transaction (R20); a malformed
READ's data bytes are 0x00 (DEDUCED from R29, assumption log 8). A well-formed head is not touched by the command
(DEDUCED, assumption log 1). A ready response leaves on the upstream port and its tag leaves the in-flight set (R32). -/
def Obligations.MalformedHeadsAndReadyResponsesLeave : Prop :=
  (∀ (s : State) (r : UpRequest) (rest : List UpRequest), s.inReset = false → s.upi.intake = r :: rest →
    (malformed r = true → exec .malformedHead s = .next (State.settle { s with upi := { s.upi with
      intake := rest
      stall := none
      responses := s.upi.responses ++ [⟨r.tag, .fault,
        match r.body with
        | .read n => List.replicate n 0
        | .write _ => []⟩] } })) ∧
    (malformed r = false → exec .malformedHead s = .next s)) ∧
  (∀ (s : State) (p : UpResponse), s.inReset = false → p ∈ s.upi.responses →
    (s.upi.responses.map UpResponse.tag).Nodup →
    exec (.upstreamResponse p.tag) s = .next (State.settle { s with upi := { s.upi with
      responses := s.upi.responses.filter fun q => decide (q.tag ≠ p.tag)
      inFlight := s.upi.inFlight.filter fun g => decide (g ≠ p.tag)
      sent := some p } }))

/-- The arbiter grants the first ready requester after the rotation pointer in the rotation UP, APL, SWP; UP is ready
when its head is well formed, fewer than 40 transactions are charged to it and the head is not in STALL; APL and SWP
when they have a transaction and fewer than 4 outstanding (R21, R25, R82, R145). An outstanding entry is charged to its
owner, and an internal tag is free when no entry has it (R24). -/
def Obligations.ArbiterFollowsTheRotation : Prop :=
  (∀ d : Dnp,
    (d.charged .up = (d.outstanding.filter fun e => match e.owner with | .up _ _ => true | _ => false).length ∧
      d.charged .apl = (d.outstanding.filter fun e => match e.owner with | .apl _ => true | _ => false).length ∧
      d.charged .swp = (d.outstanding.filter fun e => match e.owner with | .swp _ => true | _ => false).length) ∧
    ∀ g : ITag, d.tagFree g = true ↔ ∀ e ∈ d.outstanding, e.itag ≠ g) ∧
  ∀ s : State,
    (s.arbiter = match s.dnp.rotation with
      | .swp => if s.ready .up then some .up else if s.ready .apl then some .apl
          else if s.ready .swp then some .swp else none
      | .up => if s.ready .apl then some .apl else if s.ready .swp then some .swp
          else if s.ready .up then some .up else none
      | .apl => if s.ready .swp then some .swp else if s.ready .up then some .up
          else if s.ready .apl then some .apl else none) ∧
    (s.ready .up = true ↔ ∃ r rest, s.upi.intake = r :: rest ∧ malformed r = false ∧ s.dnp.charged .up < 40 ∧
      s.stallOf r = none) ∧
    (s.ready .apl = true ↔ (∃ rec x, s.classifyIssue = .mapped rec x) ∧ s.dnp.charged .apl < 4) ∧
    (s.ready .swp = true ↔ ∃ c, s.swp.engine = .reading c ∧ c.nextChunk < c.endAddr ∧ s.linkUp = true ∧
      (s.region c.region).state = .resyncing ∧ s.dnp.charged .swp < 4 ∧
      s.jnl.records.length + (s.jnl.reserveDesc + 1) ≤ 2048 ∧ s.jnl.bytes + (s.jnl.reserveBytes + 256) ≤ 131072)

/-- What a grant tests. The region of a page is the entry that is not DISABLED and whose pages hold it (R14), APL's the
one of these that is a TARGET (R143), the remote address the local one plus displacement pages (R4), no two live entries
sharing a page (R5). A request is malformed by its length or its place in its page (R18). A head is in STALL when R21's
four conditions hold. The space test is one of R42's two: the growth when the write coalesces, else a descriptor and the
data. A write coalesces into the newest record when R47's seven conditions hold. The record at the issue point is
mapped, for APL to issue, when it is no VOID and the lookup finds a region, unmapped when it finds none (R143, R145). A
region is captured from when it is a SOURCE in ACTIVE or RESYNCING (R15). -/
def Obligations.LookupsAndCaptureTests : Prop :=
  (∀ (a : Addr) (d : Int), pageOf a = a.toNat / 4096 ∧
    (0 ≤ (a.toNat : Int) + d * 4096 → (a.toNat : Int) + d * 4096 < 2 ^ 40 →
      ((remoteOf a d).toNat : Int) = a.toNat + d * 4096)) ∧
  (∀ (s : State) (x : RegionIx), s.rgt.disjoint = true →
    let f := (s.region x).fields
    (∀ page, s.lookup page = some x ↔
      (s.region x).state ≠ .disabled ∧ f.basePage ≤ page ∧ page < f.basePage + f.size) ∧
    (s.rgt.targetStates = true → ∀ a : Addr, s.lookupTarget a = some x ↔
      (s.region x).state = .active ∧ f.direction = .target ∧ f.basePage ≤ a.toNat / 4096 ∧
        a.toNat / 4096 < f.basePage + f.size)) ∧
  (∀ e : Region, e.capturing = true ↔ e.fields.direction = .source ∧ (e.state = .active ∨ e.state = .resyncing)) ∧
  (∀ s : State, s.applyLaw = true →
    let atIssue := s.apl.queue[(s.apl.issue - s.apl.applied).toNat]?
    (∀ rec x, s.classifyIssue = .mapped rec x ↔
      atIssue = some rec ∧ rec.kind ≠ .void ∧ s.lookupTarget rec.remoteAddr = some x) ∧
    (s.classifyIssue = .unmapped ↔
      ∃ rec, atIssue = some rec ∧ rec.kind ≠ .void ∧ s.lookupTarget rec.remoteAddr = none) ∧
    (s.classifyIssue = .void ↔ ∃ rec, atIssue = some rec ∧ rec.kind = .void) ∧
    (s.classifyIssue = .empty ↔ s.apl.issue = s.frx.expected)) ∧
  (∀ bytes : List (Byte × Bool), (anyEnabled bytes = true ↔ ∃ b ∈ bytes, b.2 = true) ∧
    (allEnabled bytes = true ↔ ∀ b ∈ bytes, b.2 = true)) ∧
  (∀ (n : Nat) (bytes : List (Byte × Bool)),
    bodyLength (.read n) = n ∧ bodyLength (.write bytes) = bytes.length) ∧
  (∀ r : UpRequest, malformed r = true ↔ bodyLength r.body = 0 ∨ 256 < bodyLength r.body ∨
    4096 < r.address.toNat % 4096 + bodyLength r.body) ∧
  (∀ (s : State) (r : UpRequest) (x : RegionIx),
    let e := s.region x
    s.stallOf r = some x ↔ ∃ bytes : List (Byte × Bool),
      malformed r = false ∧ r.body = .write bytes ∧ (∃ b ∈ bytes, b.2 = true) ∧
      s.lookup (r.address.toNat / 4096) = some x ∧ e.fields.direction = .source ∧
      (e.state = .active ∨ e.state = .resyncing) ∧ e.fields.fullPolicy = .stall ∧
      s.jnl.captureFits x r.address (remoteOf r.address e.fields.displacement) bytes = false) ∧
  (∀ (j : Jnl) (x : RegionIx) (a remote : Addr) (bytes : List (Byte × Bool)),
    let round := fun n : Nat => (n + 15) / 16 * 16
    let used := (j.records.map fun q => round q.length).sum
    (∀ rec, j.coalesceInto x a remote bytes = some rec →
      (j.captureFits x a remote bytes = true ↔
        used + (round (rec.length + bytes.length) - round rec.length) ≤ 131072)) ∧
    (j.coalesceInto x a remote bytes = none →
      (j.captureFits x a remote bytes = true ↔
        j.records.length + 1 ≤ 2048 ∧ used + round bytes.length ≤ 131072)) ∧
    (∀ rec, j.coalesceInto x a remote bytes = some rec ↔
      j.records.getLast? = some rec ∧ rec.isOpen = true ∧ rec.region = x ∧
        (rec.mask = none ∧ ∀ b ∈ bytes, b.2 = true) ∧
        a.toNat = rec.localAddr.toNat + rec.length ∧ remote.toNat = rec.remoteAddr.toNat + rec.length ∧
        rec.length + bytes.length ≤ 256 ∧ rec.localAddr.toNat % 4096 + (rec.length + bytes.length) ≤ 4096))

/-- The water marks are evaluated when the records or the bytes of the journal change, and not when neither does: with
the latch clear and occupancy at or above the high mark JNL_HIGH is raised and the latch set, with it set and occupancy
at or below the low mark JNL_LOW is raised and it is cleared. Occupancy is the larger of the two percentages, rounded
down (R41, R58, R59). The statements about changes of the journal speak of `State.setRecords`. -/
def Obligations.WaterMarksFollowTheJournal : Prop :=
  (∀ s : State,
    let bytes := (s.jnl.records.map fun r => (r.length + 15) / 16 * 16).sum
    let occupancy := max (100 * s.jnl.records.length / 2048) (100 * bytes / 131072)
    (s.jnl.bytes = bytes ∧ s.jnl.occupancy = occupancy) ∧
    (s.jnl.latch = false → s.jnl.highMark ≤ occupancy →
      s.evalMarks = { s with jnl := { s.jnl with latch := true }, mgp := s.mgp.raise .jnlHigh }) ∧
    (s.jnl.latch = true → occupancy ≤ s.jnl.lowMark →
      s.evalMarks = { s with jnl := { s.jnl with latch := false }, mgp := s.mgp.raise .jnlLow }) ∧
    (s.jnl.latch = false → occupancy < s.jnl.highMark → s.evalMarks = s) ∧
    (s.jnl.latch = true → s.jnl.lowMark < occupancy → s.evalMarks = s)) ∧
  (∀ (s : State) (rs : List Record),
    let bytes := fun l : List Record => (l.map fun r => (r.length + 15) / 16 * 16).sum
    let changed : State := { s with jnl := { s.jnl with records := rs } }
    (rs.length ≠ s.jnl.records.length ∨ bytes rs ≠ bytes s.jnl.records → s.setRecords rs = changed.evalMarks) ∧
    (rs.length = s.jnl.records.length → bytes rs = bytes s.jnl.records → s.setRecords rs = changed))

/-- A grant to UP of a READ, of a WRITE outside every region, of a WRITE with no byte enabled in a SOURCE region,
or of a WRITE with an enabled byte in a SOURCE region that is DIVERGED: the head is issued as it is and nothing is
captured. The last is answered as an uncaptured SYNC write when the mode is SYNC (R14, R15, R26, R31, R75). -/
def Obligations.UpGrantForwards : Prop :=
  ∀ (s : State) (itag : ITag) (r : UpRequest) (rest : List UpRequest) (path : UpPath),
    s.inReset = false → s.arbiter = some .up → s.upi.intake = r :: rest → s.dnp.tagFree itag = true →
    ((∃ n, r.body = .read n ∧ path = .read n) ∨
      (∃ bytes, r.body = .write bytes ∧ path = .plain ∧
        (s.lookup (pageOf r.address) = none ∨
          ∃ x, s.lookup (pageOf r.address) = some x ∧ (s.region x).fields.direction = .source ∧
            anyEnabled bytes = false)) ∨
      (∃ bytes x, r.body = .write bytes ∧ anyEnabled bytes = true ∧ s.lookup (pageOf r.address) = some x ∧
        (s.region x).fields.direction = .source ∧ (s.region x).state = .diverged ∧
        path = match (s.region x).fields.mode with
          | .async => UpPath.plain
          | .sync => .uncapturedSync (s.region x).fields.action)) →
    exec (.upGrant itag) s = .next (State.settle { s with
      upi := { s.upi with intake := rest, stall := none }
      dnp := ⟨s.dnp.outstanding ++ [⟨itag, .up r.tag path, false⟩], .up, some ⟨itag, r.address, r.body⟩⟩ })

/-- A grant to UP of a WRITE with an enabled byte in a SOURCE region in ACTIVE or RESYNCING whose capture fits: the
write is coalesced into the newest record or opens a new one with next seq, the water marks follow the journal's change
(WaterMarksFollowTheJournal), CAPTURED is counted, in SYNC mode a hold is made, and the write is issued (R15, R17, R26,
R44, R47, R59, R63). -/
def Obligations.UpGrantCaptures : Prop :=
  ∀ (s : State) (itag : ITag) (r : UpRequest) (rest : List UpRequest) (bytes : List (Byte × Bool)) (x : RegionIx),
    s.inReset = false → s.arbiter = some .up → s.upi.intake = r :: rest → s.dnp.tagFree itag = true →
    r.body = .write bytes → anyEnabled bytes = true → s.lookup (pageOf r.address) = some x →
    (s.region x).fields.direction = .source → (s.region x).state = .active ∨ (s.region x).state = .resyncing →
    let f := (s.region x).fields
    let remote := remoteOf r.address f.displacement
    let into := s.jnl.coalesceInto x r.address remote bytes
    let seq := (into.map Record.seq).getD s.jnl.nextSeq
    let changed := s.setRecords (match into with
      | some rec => s.jnl.records.dropLast ++
          [{ rec with length := rec.length + bytes.length, data := rec.data ++ bytes.map (·.1) }]
      | none => s.jnl.records.map (fun rec => { rec with isOpen := false }) ++
          [⟨seq, .write, x, r.address, remote, bytes.length,
            if allEnabled bytes then none else some (bytes.map (·.2)), bytes.map (·.1), .pending, 0, none, true⟩])
    s.jnl.captureFits x r.address remote bytes = true →
    exec (.upGrant itag) s = .next (State.settle { s with
      jnl := { changed.jnl with nextSeq := if into.isSome then s.jnl.nextSeq else s.jnl.nextSeq + 1 }
      mgp := changed.mgp
      rgt := ⟨s.rgt.entries.set x { s.region x with captured := satInc (s.region x).captured }⟩
      hld := ⟨s.hld.holds ++ (if f.mode = .sync then
        [⟨r.tag, x, seq, f.action, none, .openHold, s.now + f.timeout⟩] else [])⟩
      upi := { s.upi with intake := rest, stall := none }
      dnp := ⟨s.dnp.outstanding ++ [⟨itag, .up r.tag (.captured (decide (f.mode = .sync))), false⟩], .up,
        some ⟨itag, r.address, r.body⟩⟩ })

/-- A grant to UP of a WRITE in a live SOURCE region whose capture lacks space (so under DROP): no record, no seq,
the region becomes DIVERGED with REGION_DIVERGED and its mask bit, its sweep ends, and the write is issued
uncaptured (R9, R15, R60, R79, R91). -/
def Obligations.UpGrantWithoutSpaceDiverges : Prop :=
  ∀ (s : State) (itag : ITag) (r : UpRequest) (rest : List UpRequest) (bytes : List (Byte × Bool)) (x : RegionIx),
    s.inReset = false → s.arbiter = some .up → s.upi.intake = r :: rest → s.dnp.tagFree itag = true →
    r.body = .write bytes → anyEnabled bytes = true → s.lookup (pageOf r.address) = some x →
    (s.region x).capturing = true →
    s.jnl.captureFits x r.address (remoteOf r.address (s.region x).fields.displacement) bytes = false →
    exec (.upGrant itag) s = .next (State.settle { s with
      upi := { s.upi with intake := rest, stall := none }
      rgt := ⟨s.rgt.entries.set x { s.region x with state := .diverged }⟩
      swp :=
        { queue := s.swp.queue.filter fun q => decide (q ≠ x)
          engine := if s.swp.engine.ctx?.any fun c => decide (c.region = x) then .idle else s.swp.engine }
      mgp := s.mgp.raiseDiverged x
      dnp := ⟨s.dnp.outstanding ++ [⟨itag, .up r.tag (match (s.region x).fields.mode with
          | .async => UpPath.plain
          | .sync => .uncapturedSync (s.region x).fields.action), false⟩], .up,
        some ⟨itag, r.address, r.body⟩⟩ })

/-- A grant to UP of a stray write counts STRAY and raises STRAY_WRITE; under PASS it is issued, under REJECT it is
answered FAULT at once with no transaction, whatever internal tag the command names (R16, R26). -/
def Obligations.UpGrantOfAStrayWrite : Prop :=
  ∀ (s : State) (itag : ITag) (r : UpRequest) (rest : List UpRequest) (bytes : List (Byte × Bool)) (x : RegionIx),
    s.inReset = false → s.arbiter = some .up → s.upi.intake = r :: rest → r.body = .write bytes →
    s.lookup (pageOf r.address) = some x → (s.region x).fields.direction = .target →
    let rgt : Rgt := ⟨s.rgt.entries.set x { s.region x with strays := satInc (s.region x).strays }⟩
    ((s.region x).fields.stray = .pass → s.dnp.tagFree itag = true →
      exec (.upGrant itag) s = .next (State.settle { s with
        upi := { s.upi with intake := rest, stall := none }
        rgt := rgt
        mgp := s.mgp.raise .strayWrite
        dnp := ⟨s.dnp.outstanding ++ [⟨itag, .up r.tag .plain, false⟩], .up, some ⟨itag, r.address, r.body⟩⟩ })) ∧
    ((s.region x).fields.stray = .reject →
      exec (.upGrant itag) s = .next (State.settle { s with
        upi := { s.upi with
          intake := rest, stall := none, responses := s.upi.responses ++ [⟨r.tag, .fault, []⟩] }
        rgt := rgt
        mgp := s.mgp.raise .strayWrite
        dnp := { s.dnp with rotation := .up } }))

/-- A grant to APL issues the mapped record at the issue point as a write of its data and enables; the record
becomes IN_FLIGHT and the issue point moves on (R27, R145). -/
def Obligations.AplGrantIssuesTheRecord : Prop :=
  ∀ (s : State) (itag : ITag) (rec : ApplyRec) (x : RegionIx),
    s.inReset = false → s.arbiter = some .apl → s.dnp.tagFree itag = true → s.classifyIssue = .mapped rec x →
    exec (.aplGrant itag) s = .next (State.settle { s with
      apl := { s.apl with
        queue := s.apl.queue.map fun q => if q.seq = s.apl.issue then { q with state := .inFlight } else q
        issue := s.apl.issue + 1
        inFlight := s.apl.inFlight ++ [⟨itag, rec.seq, x, false⟩] }
      dnp := ⟨s.dnp.outstanding ++ [⟨itag, .apl rec.seq, false⟩], .apl,
        some ⟨itag, rec.remoteAddr, .write (match rec.mask with
          | some flags => rec.data.zip flags
          | none => rec.data.map fun b => (b, true))⟩⟩ })

/-- A grant to SWP issues a 256-byte read of the next chunk and appends its FILLING record, the water marks following
the journal's change; the seq joins own reads, next chunk moves on by 256, and at the end last seq is set (R27, R45,
R59, R83). -/
def Obligations.SwpGrantReadsTheChunk : Prop :=
  ∀ (s : State) (itag : ITag) (c : SweepCtx),
    s.inReset = false → s.arbiter = some .swp → s.dnp.tagFree itag = true → s.swp.engine = .reading c →
    let addr : Addr := BitVec.ofNat 40 c.nextChunk
    let changed := s.setRecords (s.jnl.records.map (fun rec => { rec with isOpen := false }) ++
      [⟨s.jnl.nextSeq, .sweep, c.region, addr, remoteOf addr (s.region c.region).fields.displacement, 256, none, [],
        .filling, 0, none, false⟩])
    exec (.swpGrant itag) s = .next (State.settle { s with
      jnl := { changed.jnl with nextSeq := s.jnl.nextSeq + 1 }
      mgp := changed.mgp
      swp := ⟨s.swp.queue, .reading ⟨c.region, c.nextChunk + 256, c.endAddr, c.ownReads ++ [s.jnl.nextSeq],
        if c.nextChunk + 256 = c.endAddr then some s.jnl.nextSeq else c.lastSeq⟩⟩
      dnp := ⟨s.dnp.outstanding ++ [⟨itag, .swp s.jnl.nextSeq, false⟩], .swp, some ⟨itag, addr, .read 256⟩⟩ })

/-- A response from memory to an UP transaction that HLD does not hold: a READ is answered with its data or 0x00
bytes, a plain or captured write with its status, an uncaptured SYNC write by its action; LOCAL_FAULT is raised for
a captured write's FAULT, also when its entry was abandoned, and an abandoned entry is not answered (R28 to R31,
R33, R34, R75). -/
def Obligations.DownstreamResponseToUp : Prop :=
  ∀ (s : State) (itag : ITag) (st : BusStatus) (data : Vector Byte 256) (tag : Tag) (path : UpPath) (ab : Bool),
    s.inReset = false →
    s.dnp.outstanding.find? (fun e => decide (e.itag = itag)) = some ⟨itag, .up tag path, ab⟩ →
    (∀ held, path = .captured held → held = true → ab = true) →
    let faulted := st = .fault ∧ (∃ held, path = .captured held)
    ∃ t : State, exec (.downstreamResponse itag st data) s = .next t.settle ∧
      t.dnp = { s.dnp with outstanding := s.dnp.outstanding.filter fun e => decide (e.itag ≠ itag) } ∧
      t.upi = { s.upi with responses := s.upi.responses ++ (if ab then [] else [⟨tag,
        (match path with
          | .uncapturedSync .fail => .fault
          | _ => st),
        (match path, st with
          | .read n, .okay => data.toList.take n
          | .read n, .fault => List.replicate n 0
          | _, _ => [])⟩]) } ∧
      (faulted → t.mgp = s.mgp.raise .localFault) ∧ (¬ faulted → t.mgp = s.mgp) ∧
      t.rgt = s.rgt ∧ t.jnl = s.jnl ∧ t.hld = s.hld ∧ t.swp = s.swp ∧ t.ftx = s.ftx ∧ t.lnc = s.lnc ∧
      t.frx = s.frx ∧ t.apl = s.apl ∧ t.now = s.now

/-- A response from memory to a held write becomes its hold's local status, and each hold answers by the table of R64:
FAULT at once on a local FAULT; on OKAY it waits in OPEN, is OKAY in REMOTE_MET and WAIVED and FAULT in FAILED. The
outstanding entry is removed. A hold waits, its response not fixed, while it has no local status or is OPEN with OKAY
(R28, R31, R64, R65). -/
def Obligations.DownstreamResponseToAHold : Prop :=
  (∀ h : Hold, h.verdict = none ↔ h.localStatus = none ∨ (h.state = .openHold ∧ h.localStatus = some .okay)) ∧
  ∀ (s : State) (itag : ITag) (st : BusStatus) (data : Vector Byte 256) (tag : Tag),
    s.inReset = false →
    s.dnp.outstanding.find? (fun e => decide (e.itag = itag)) = some ⟨itag, .up tag (.captured true), false⟩ →
    (∀ h ∈ s.hld.holds, h.verdict = none) →
    ∃ t : State, exec (.downstreamResponse itag st data) s = .next t.settle ∧
      t.dnp = { s.dnp with outstanding := s.dnp.outstanding.filter fun e => decide (e.itag ≠ itag) } ∧
      t.hld.holds = (s.hld.holds.map fun h => if h.tag = tag then { h with localStatus := some st } else h).filter
        (fun h => !(decide (h.tag = tag) && (decide (st = .fault) || decide (h.state ≠ .openHold)))) ∧
      t.upi = { s.upi with responses := s.upi.responses ++ ((s.hld.holds.filter fun h =>
          decide (h.tag = tag) && (decide (st = .fault) || decide (h.state ≠ .openHold))).map fun h =>
            ⟨h.tag, if st = .okay ∧ h.state ≠ .failed then .okay else .fault, []⟩) } ∧
      t.mgp = (match st with
        | .okay => s.mgp
        | .fault => s.mgp.raise .localFault) ∧
      t.jnl = s.jnl ∧ t.rgt = s.rgt ∧ t.swp = s.swp ∧ t.apl = s.apl ∧ t.lnc = s.lnc ∧ t.ftx = s.ftx ∧
      t.frx = s.frx ∧ t.now = s.now

/-- A response whose internal tag names no outstanding entry is discarded (R28). A response to an apply write removes
its in-flight entry; OKAY counts APPLIED of the region found at issue, FAULT raises APPLY_FAULT and counts APPLY_FAULTS;
the record becomes DONE unless the write is orphaned (R28, R146, R150). -/
def Obligations.DownstreamResponseToAplOrToNone : Prop :=
  (∀ (s : State) (itag : ITag) (st : BusStatus) (data : Vector Byte 256),
    (∀ e ∈ s.dnp.outstanding, e.itag ≠ itag) → exec (.downstreamResponse itag st data) s = .next s) ∧
  (∀ (s : State) (itag : ITag) (st : BusStatus) (data : Vector Byte 256) (q : Seq) (ab : Bool) (e : AplEntry),
    s.inReset = false →
    s.dnp.outstanding.find? (fun f => decide (f.itag = itag)) = some ⟨itag, .apl q, ab⟩ →
    s.apl.inFlight.find? (fun f => decide (f.itag = itag)) = some e →
    exec (.downstreamResponse itag st data) s = .next (State.settle { s with
      dnp := { s.dnp with outstanding := s.dnp.outstanding.filter fun f => decide (f.itag ≠ itag) }
      apl := { s.apl with
        inFlight := s.apl.inFlight.filter fun f => decide (f.itag ≠ itag)
        queue := if e.orphaned then s.apl.queue
          else s.apl.queue.map fun r => if r.seq = e.seq then { r with state := .done } else r }
      rgt := (match st with
        | .okay => ⟨s.rgt.entries.set e.region
            { s.region e.region with applied := satInc (s.region e.region).applied }⟩
        | .fault => s.rgt)
      mgp := (match st with
        | .okay => s.mgp
        | .fault => (s.mgp.raise .applyFault).count .applyFaults) }))

/-- A response to one of the current sweep's own reads: OKAY makes its record PENDING with the data, and the last
one to answer after the last chunk's grant takes the engine to DRAINING; FAULT makes the record VOID, raises
SWEEP_FAULT and takes the swept region to DIVERGED and the engine to IDLE. A response to any other read that is not
abandoned acts on the record it names alone: filled on OKAY, VOID with SWEEP_FAULT on FAULT, and dropped when no FILLING
record has its seq; no region and no sweep changes. The response to an abandoned read changes no record. The water marks
follow the journal's changes (R28, R50, R51, R59, R84, R85, R92). -/
def Obligations.DownstreamResponseToSwp : Prop :=
  ∀ (s : State) (itag : ITag) (data : Vector Byte 256) (q : Seq) (ab : Bool),
    s.inReset = false →
    s.dnp.outstanding.find? (fun f => decide (f.itag = itag)) = some ⟨itag, .swp q, ab⟩ →
    let dnp : Dnp := { s.dnp with outstanding := s.dnp.outstanding.filter fun f => decide (f.itag ≠ itag) }
    let filled := s.jnl.records.map fun r =>
      if r.seq = q ∧ r.state = .filling then { r with data := data.toList, state := .pending } else r
    let voided := s.setRecords (s.jnl.records.map fun r => if r.seq = q ∧ r.state = .filling
      then { r with kind := .void, length := 0, data := [], state := .pending } else r)
    (ab = true → ∀ st, exec (.downstreamResponse itag st data) s = .next (State.settle { s with dnp := dnp })) ∧
    (ab = false → ∀ c, s.swp.engine = .reading c → q ∈ c.ownReads →
      (let own := c.ownReads.filter fun p => decide (p ≠ q)
       exec (.downstreamResponse itag .okay data) s = .next (State.settle { s with
        dnp := dnp
        jnl := { s.jnl with records := filled }
        swp := { s.swp with
          engine := if c.nextChunk = c.endAddr ∧ own = [] then .draining { c with ownReads := own }
            else .reading { c with ownReads := own } } })) ∧
      ((s.region c.region).capturing = true →
        exec (.downstreamResponse itag .fault data) s = .next (State.settle { s with
          dnp := dnp
          jnl := voided.jnl
          rgt := ⟨s.rgt.entries.set c.region { s.region c.region with state := .diverged }⟩
          swp := ⟨s.swp.queue.filter fun p => decide (p ≠ c.region), .idle⟩
          mgp := (voided.mgp.raise .sweepFault).raiseDiverged c.region }))) ∧
    (ab = false → (∀ c, s.swp.engine = .reading c → q ∉ c.ownReads) →
      ((∃ r ∈ s.jnl.records, r.seq = q ∧ r.state = .filling) →
        exec (.downstreamResponse itag .okay data) s = .next (State.settle { s with
          dnp := dnp, jnl := { s.jnl with records := filled } }) ∧
        exec (.downstreamResponse itag .fault data) s = .next (State.settle { s with
          dnp := dnp, jnl := voided.jnl, mgp := voided.mgp.raise .sweepFault })) ∧
      ((∀ r ∈ s.jnl.records, r.seq = q → r.state ≠ .filling) → ∀ st,
        exec (.downstreamResponse itag st data) s = .next (State.settle { s with dnp := dnp })))

/-- A head that enters STALL starts its stall timer from the region's timeout, and one that enters it again with its
timer expired takes its region to DIVERGED with STALL_EXPIRED and STALLS. The timer expires: a head in STALL has its
region driven to DIVERGED in the same way, with REGION_DIVERGED; otherwise the expiry is recorded against the head and
nothing else happens. The timebase has then reached the end of the timer (R9, R22,
R23; assumption log 3). -/
def Obligations.StallTimerRunsAndExpires : Prop :=
  (∀ s : State, s.stallRegion = s.upi.intake.head?.bind s.stallOf ∧ (s.stallRegion = none → s.stallCheck = s)) ∧
  (∀ (s : State) (x : RegionIx), s.stallRegion = some x →
    (s.upi.stall = none →
      s.stallCheck = { s with upi := { s.upi with stall := some ⟨s.now, (s.region x).fields.timeout, false⟩ } }) ∧
    (∀ t, s.upi.stall = some t → t.expired = false → s.stallCheck = s) ∧
    (∀ t, s.upi.stall = some t → t.expired = true →
      (s.stallCheck.region x).state = .diverged ∧ s.stallCheck.stallRegion = none ∧
      s.stallCheck.mgp = ((s.mgp.raiseDiverged x).raise .stallExpired).count .stalls)) ∧
  (∀ (s : State) (d : StallTimer), s.inReset = false → s.upi.stall = some d → d.expired = false →
    let upi := { s.upi with stall := some { d with expired := true } }
    let now := max s.now (d.start + d.length)
    (s.stallRegion = none → exec .stallTimerExpiry s = .next (State.settle { s with upi := upi, now := now })) ∧
    (∀ x, s.stallRegion = some x →
      exec .stallTimerExpiry s = .next (State.settle { s with
        upi := upi
        now := now
        rgt := ⟨s.rgt.entries.set x { s.region x with state := .diverged }⟩
        swp :=
          { queue := s.swp.queue.filter fun q => decide (q ≠ x)
            engine := if s.swp.engine.ctx?.any fun c => decide (c.region = x) then .idle else s.swp.engine }
        mgp := ((s.mgp.raiseDiverged x).raise .stallExpired).count .stalls })))

/-- Assertion of host bus reset empties the intake queue and the in-flight set, cancels the stall timer and every
response, abandons the UP entries, deletes every hold and raises HOST_RESET; the rest of the part stays (R34, R73).
Its release lets UPI accept again (R19). -/
def Obligations.HostBusResetAndItsRelease : Prop :=
  ∀ s : State, s.inReset = false →
    (s.upi.hostReset = false → exec .hostBusReset s = .next (State.settle { s with
      upi := { s.upi with intake := [], inFlight := [], stall := none, responses := [], hostReset := true }
      dnp := { s.dnp with outstanding := s.dnp.outstanding.map fun e => match e.owner with
        | .up _ _ => { e with abandoned := true }
        | .apl _ => e
        | .swp _ => e }
      hld := ⟨[]⟩
      mgp := s.mgp.raise .hostReset })) ∧
    exec .hostBusResetRelease s = .next (State.settle { s with upi := { s.upi with hostReset := false } })

/-- The deadline of an OPEN hold raises SYNC_TIMEOUT and counts SYNC_TIMEOUTS. Under FAIL the hold fails, and a hold
whose local status is known is answered FAULT; under DEGRADE the region's mode becomes ASYNC and every OPEN hold of
the region is waived, those with a local status being answered with it (R67 to R69). The timebase has then reached the
deadline (DEDUCED, assumption log 3). In REMOTE_MET, FAILED and WAIVED the expiry is discarded and nothing is raised
(R67); a tag that names no hold has no deadline (DEDUCED, assumption log 1). -/
def Obligations.HoldDeadlineFailsOrDegrades : Prop :=
  (∀ (s : State) (h : Hold), s.inReset = false → s.holdOf h.tag = some h → h.state ≠ .openHold →
    exec (.holdDeadlineExpiry h.tag) s = .next s) ∧
  (∀ (s : State) (tag : Tag), (∀ k ∈ s.hld.holds, k.tag ≠ tag) → exec (.holdDeadlineExpiry tag) s = .next s) ∧
  (∀ (s : State) (h : Hold), s.inReset = false → s.holdOf h.tag = some h → h.state = .openHold →
    (∀ k ∈ s.hld.holds, k.verdict = none) → (s.hld.holds.map Hold.tag).Nodup →
    ∃ t : State, exec (.holdDeadlineExpiry h.tag) s = .next t.settle ∧
      t.now = max s.now h.deadline ∧
      t.mgp = (s.mgp.raise .syncTimeout).count .syncTimeouts ∧
      (h.action = .fail → t.rgt = s.rgt ∧
        t.hld.holds = (s.hld.holds.map fun k => if k.tag = h.tag then { k with state := .failed } else k).filter
          (fun k => !(decide (k.tag = h.tag) && k.localStatus.isSome)) ∧
        t.upi = { s.upi with responses := s.upi.responses ++
          (if h.localStatus.isSome then [⟨h.tag, .fault, []⟩] else []) }) ∧
      (h.action = .degrade →
        t.rgt = ⟨s.rgt.entries.set h.region { s.region h.region with
          fields := { (s.region h.region).fields with mode := .async } }⟩ ∧
        t.hld.holds = (s.hld.holds.map fun k =>
            if k.region = h.region ∧ k.state = .openHold then { k with state := .waived } else k).filter
          (fun k => !(decide (k.region = h.region ∧ k.state = .waived) && k.localStatus.isSome)) ∧
        t.upi = { s.upi with responses := s.upi.responses ++ ((s.hld.holds.filter fun k =>
            decide (k.region = h.region ∧ k.state = .openHold) && k.localStatus.isSome).map fun k =>
              ⟨k.tag, .okay, []⟩) }) ∧
      t.jnl = s.jnl ∧ t.dnp = s.dnp ∧ t.swp = s.swp ∧ t.apl = s.apl ∧ t.lnc = s.lnc ∧ t.ftx = s.ftx ∧
      t.frx = s.frx)

/-! ### This node's turns -/

/-- The selection for a DATA frame is the longest run of records from the send point that keeps every condition of
R101: each is PENDING, at most 64, within the window, and the encoded sizes + 4 at most 4096. It is not empty when a
record is sendable and the first has the form of its kind. A record is sendable when one is PENDING at the send point,
which the SENT records precede, and the window has room; something is to be sent when a record is sendable or a NAK is
pending (R39, R99 to R101). -/
def Obligations.SelectionIsTheLongestRun : Prop :=
  (∀ r : Record, encodedSize r = 8 + (if r.mask.isSome then (r.length + 7) / 8 else 0) + r.length) ∧
  ∀ s : State,
    let l := s.jnl.fromSendPoint
    l = s.jnl.records.drop s.jnl.sentCount ∧
    s.jnl.sentCount = (s.jnl.records.filter fun r => decide (r.state = .sent)).length ∧
    s.jnl.sendPoint = s.jnl.oldest + BitVec.ofNat 32 s.jnl.sentCount ∧
    s.jnl.oldest = ((s.jnl.records.map Record.seq).head?).getD s.jnl.nextSeq ∧
    (s.sendable = true ↔ ∃ r, s.jnl.records[s.jnl.sentCount]? = some r ∧ r.state = .pending ∧
      s.jnl.sentCount < s.lnc.params.window) ∧
    (s.somethingToSend = true ↔ s.sendable = true ∨ s.ftx.pendingNak ≠ none) ∧
    let k := s.selection.length
    let total := (s.selection.map encodedSize).sum
    s.selection = l.take k ∧ (∀ r ∈ s.selection, r.state = .pending) ∧ k ≤ 64 ∧
    (0 < k → s.jnl.sentCount + k ≤ s.lnc.params.window ∧ total + 4 ≤ 4096) ∧
    (∀ r, l[k]? = some r → r.state ≠ .pending ∨ 64 ≤ k ∨ s.lnc.params.window < s.jnl.sentCount + k + 1 ∨
      4096 < total + encodedSize r + 4) ∧
    (s.sendable = true → (∀ r, l.head? = some r → r.formed = true) → 0 < k)

/-- A frame opportunity with a sendable record, none of the selected ones at send count 8, builds a DATA frame: the
selected records become SENT with their send counts raised, their last sent time set and closed, and the frame
carries them with TURN when the burst limit is reached or nothing is left to send: no PENDING record behind those taken,
or no room left in the window (R52, R96, R97, R101, R103,
R113). -/
def Obligations.FrameOpportunityBuildsData : Prop :=
  ∀ (s : State) (u : Turn), s.inReset = false → s.lnc.link = .up u → u.sub = .hold → s.ftx.frame = none →
    u.frames < s.lnc.params.burst → u.turnSent = false → s.sendable = true →
    (∀ r ∈ s.selection, r.sendCount < 8) →
    let sent := s.jnl.sentCount
    let k := s.selection.length
    let total := (s.selection.map encodedSize).sum
    let left := match s.jnl.records[sent + k]? with
      | some r => decide (r.state = .pending) && decide (sent + k < s.lnc.params.window)
      | none => false
    let mark := decide (u.frames + 1 = s.lnc.params.burst) || !left
    let h : Header := ⟨some .data, mark, s.ftx.pendingNak.isSome, false, false, lengthClassFor (total + 4),
      if s.ftx.pendingNak.isSome then s.ftx.pendingNak else none, k, s.jnl.oldest + BitVec.ofNat 32 sent,
      s.frx.expected, s.apl.applied⟩
    ∃ t : State, exec .frameOpportunity s = .next t.settle ∧
      t.jnl = { s.jnl with
        records := s.jnl.records.take sent ++
          (s.selection.map fun r =>
            { r with state := .sent, sendCount := r.sendCount + 1, lastSent := some s.now, isOpen := false }) ++
          s.jnl.records.drop (sent + k) } ∧
      t.lnc = { s.lnc with link := .up { u with frames := u.frames + 1, dwell := none, turnSent := mark } } ∧
      t.ftx = { s.ftx with frame := some ⟨.data, mark, s.ftx.pendingNak.isSome, false, s.now,
        [0xD3, 0x5C] ++ encodeHeader h ++
          buildBody h.lengthClass (s.selection.flatMap fun r => encodeRecord r.wire)⟩ } ∧
      t.mgp = s.mgp ∧ t.upi = s.upi ∧ t.rgt = s.rgt ∧ t.dnp = s.dnp ∧ t.hld = s.hld ∧ t.swp = s.swp ∧
      t.frx = s.frx ∧ t.apl = s.apl ∧ t.now = s.now

/-- A frame opportunity with nothing sendable but a pending NAK builds a CTRL frame with TURN that carries the NAK
and takes no record; one whose selection holds a record at send count 8 builds nothing and takes the link DOWN with
cause RETRY_LIMIT, every record kept; a retrain delay of 0 takes it on to TRAINING (`Lnc.fallen`, which
TrainingTimersExpire writes out) (R102, R106, R113, R156). -/
def Obligations.FrameOpportunityBuildsCtrlOrGivesUp : Prop :=
  ∀ (s : State) (u : Turn), s.inReset = false → s.lnc.link = .up u → u.sub = .hold → s.ftx.frame = none →
    u.frames < s.lnc.params.burst → u.turnSent = false →
    (∀ q, s.sendable = false → s.ftx.pendingNak = some q →
      exec .frameOpportunity s = .next (State.settle { s with
        lnc := { s.lnc with link := .up { u with frames := u.frames + 1, dwell := none, turnSent := true } }
        ftx := { s.ftx with frame := some ⟨.ctrl, true, true, false, s.now,
          [0xD3, 0x5C] ++ encodeHeader ⟨some .ctrl, true, true, false, false, 0, some q, 0, 0, s.frx.expected,
            s.apl.applied⟩⟩ } })) ∧
    (s.sendable = true → (∃ r ∈ s.selection, 8 ≤ r.sendCount) →
      exec .frameOpportunity s = .next (State.settle { s with
        ftx := ⟨none, none⟩
        frx := { s.frx with rx := none }
        lnc := { s.lnc with
          link := s.lnc.fallen s.now
          lastCause := some .retryLimit
          fresh := s.lnc.fresh || s.lnc.unconfirmed
          unconfirmed := false }
        mgp := s.mgp.raise .linkDown }))

/-- This node's frame completes: FRAMES_OUT is counted, a carried NAK is cleared with NAK_SENT. In UP consecutive
collisions become 0 and TURN hands the line over (LISTEN, silence timer started); without TURN the node stays in
HOLD. A REPLY takes the secondary to REPLIED, the START takes the primary to UP in LISTEN with LINK_UP (R104, R105,
R110, R115, R123, R160, R163; assumption log 3 for the timebase). -/
def Obligations.FrameCompletedActs : Prop :=
  ∀ (s : State) (f : TxFrame), s.inReset = false → s.ftx.frame = some f →
    let now := max s.now (f.start + f.bytes.length * 8 * 4 / 1000)
    let out := s.mgp.count .framesOut
    let mgp := if f.nak then out.count .nakSent else out
    let ftx : Ftx := ⟨if f.nak then none else s.ftx.pendingNak, none⟩
    (∀ u, s.lnc.link = .up u →
      exec .frameCompleted s = .next (State.settle { s with
        now := now
        mgp := mgp
        ftx := ftx
        lnc := { s.lnc with link := .up (if f.turn then
            { u with collisions := 0, sub := .listen, guard := none, dwell := none,
                     silence := .running ⟨now, s.lnc.params.silence⟩ }
          else { u with collisions := 0 }) } })) ∧
    (∀ t, s.lnc.link = .training t → f.type = .hello →
      exec .frameCompleted s = .next (State.settle { s with
        now := now
        mgp := mgp
        ftx := ftx
        lnc := { s.lnc with
          link := .training (if f.reply ∧ t.phase = .replying then { t with phase := .replied } else t) } })) ∧
    (∀ t, s.lnc.link = .training t → f.type = .start →
      exec .frameCompleted s = .next (State.settle { s with
        now := now
        mgp := mgp.raise .linkUp
        ftx := ftx
        lnc := { s.lnc with
          link := .up ⟨.listen, none, none, .running ⟨now, s.lnc.params.silence⟩, 0, false, 0, 0⟩ } }))

/-- A collision while UP cuts the frame short with its NAK kept and its records SENT, counts COLLISIONS and raises the
consecutive count. Below 4 the primary enters GUARD with twice the guard and the secondary LISTEN with its silence timer
started; at 4 the link goes DOWN with cause COLLISIONS, and on to TRAINING with a retrain delay of 0 (R121 to R123,
R156). The peer frame that it met is on the line until the line's return to idle, so that a training frame waits for it
(R159; DEDUCED, assumption log 17). While the link is not UP or this node drives no frame nothing happens (DEDUCED,
assumption log 1). -/
def Obligations.CollisionBacksOffByRole : Prop :=
  (∀ (s : State) (u : Turn) (f : TxFrame), s.inReset = false → s.lnc.link = .up u → s.ftx.frame = some f →
    let mgp := s.mgp.count .collisions
    (u.collisions + 1 < 4 →
      exec .collision s = .next (State.settle { s with
        mgp := mgp
        ftx := { s.ftx with frame := none }
        lnc := { s.lnc with lineMet := true, link := .up (match s.lnc.params.role with
          | .primary => { u with collisions := u.collisions + 1, sub := .guard,
                                 guard := some ⟨s.now, 2 * s.lnc.params.guard⟩, dwell := none,
                                 silence := .stopped }
          | .secondary => { u with collisions := u.collisions + 1, sub := .listen, guard := none, dwell := none,
                                   silence := .running ⟨s.now, s.lnc.params.silence⟩ }) } })) ∧
    (4 ≤ u.collisions + 1 →
      exec .collision s = .next (State.settle { s with
        mgp := mgp.raise .linkDown
        ftx := ⟨none, none⟩
        frx := { s.frx with rx := none }
        lnc := { s.lnc with
          lineMet := true
          link := s.lnc.fallen s.now
          lastCause := some .collisions
          fresh := s.lnc.fresh || s.lnc.unconfirmed
          unconfirmed := false } }))) ∧
  (∀ s : State, s.inReset = false → s.linkUp = false ∨ s.ftx.frame = none → exec .collision s = .next s)

/-- The guard expires in GUARD: the node enters HOLD, a turn start. If the oldest record is SENT and its ack timeout
has passed, every SENT record becomes PENDING and GO_BACKS is counted; then frames this turn is 0 and the dwell
timer starts when nothing is to be sent (R54, R111, R112, R114; assumption log 3 for the timebase). -/
def Obligations.GuardExpiryStartsTheTurn : Prop :=
  ∀ (s : State) (u : Turn) (g : GuardTimer), s.inReset = false → s.lnc.link = .up u → u.sub = .guard →
    u.guard = some g →
    let now := max s.now (g.start + g.bits * 4 / 1000)
    let due := ∃ r rest sentAt, s.jnl.records = r :: rest ∧ r.state = .sent ∧ r.lastSent = some sentAt ∧
      sentAt + s.lnc.params.ackTimeout ≤ now
    let reverted := s.setRecords ((freeBefore s.jnl.oldest s.jnl.records).map fun r =>
      if r.state = .sent then { r with state := .pending } else r)
    ∃ t : State, exec .guardTimerExpiry s = .next t.settle ∧ t.now = now ∧
      (due → t.jnl = reverted.jnl ∧ t.mgp = reverted.mgp.count .goBacks) ∧
      (¬ due → t.jnl = s.jnl ∧ t.mgp = s.mgp) ∧ t.jnl.nextSeq = s.jnl.nextSeq ∧
      t.lnc = { s.lnc with link := .up { u with
        sub := .hold, guard := none, silence := .stopped, frames := 0, turnSent := false,
        dwell := if t.somethingToSend then none else some ⟨now, s.lnc.params.dwell⟩ } } ∧
      t.ftx = s.ftx ∧ t.upi = s.upi ∧ t.rgt = s.rgt ∧ t.dnp = s.dnp ∧ t.hld = s.hld ∧ t.swp = s.swp ∧
      t.frx = s.frx ∧ t.apl = s.apl

/-- The dwell expires with nothing sent: a CTRL frame with TURN, carrying E and A, is the whole of the turn (R97,
R106, R114). The silence timer expires in LISTEN: a missed turn is counted, and below 4 the node reclaims the line
through GUARD; at 4 the link goes DOWN with cause MISSED_TURNS, and on to TRAINING with a retrain delay of 0 (R120,
R156; assumption log 3 for the timebase). -/
def Obligations.DwellAndSilenceExpiry : Prop :=
  ∀ (s : State) (u : Turn) (d : Timer), s.inReset = false → s.lnc.link = .up u →
    let now := max s.now (d.start + d.length)
    (u.sub = .hold → u.dwell = some d → s.ftx.frame = none → s.ftx.pendingNak = none →
      exec .dwellTimerExpiry s = .next (State.settle { s with
        now := now
        lnc := { s.lnc with link := .up { u with frames := u.frames + 1, dwell := none, turnSent := true } }
        ftx := { s.ftx with frame := some ⟨.ctrl, true, false, false, now,
          [0xD3, 0x5C] ++ encodeHeader ⟨some .ctrl, true, false, false, false, 0, none, 0, 0, s.frx.expected,
            s.apl.applied⟩⟩ } })) ∧
    (u.sub = .listen → u.silence = .running d → u.missed + 1 < 4 →
      exec .silenceTimerExpiry s = .next (State.settle { s with
        now := now
        mgp := s.mgp.count .missedTurns
        lnc := { s.lnc with link := .up { u with
          missed := u.missed + 1, sub := .guard, guard := some ⟨now, s.lnc.params.guard⟩, dwell := none,
          silence := .stopped } } })) ∧
    (u.sub = .listen → u.silence = .running d → 4 ≤ u.missed + 1 →
      exec .silenceTimerExpiry s = .next (State.settle { s with
        now := now
        mgp := (s.mgp.count .missedTurns).raise .linkDown
        ftx := ⟨none, none⟩
        frx := { s.frx with rx := none }
        lnc := { s.lnc with
          link := s.lnc.fallen now
          lastCause := some .missedTurns
          fresh := s.lnc.fresh || s.lnc.unconfirmed
          unconfirmed := false } }))

/-! ### The peer's frames -/

/-- A frame mark while this node does not drive the line: in UP the node is in LISTEN after it with the silence timer
held and no count changed, whether it was in LISTEN, GUARD or HOLD; in TRAINING the frame is received; in DOWN and
DISABLED it is not. A peer frame that starts while this node drives the line is not received: it meets this node's
frame, and is on the line until the line's return to idle; inside a peer frame there is no mark (R111, R116, R117, R121,
R127; the line's state and the last two cases DEDUCED, assumption log 17). -/
def Obligations.FrameMarkStartsReception : Prop :=
  ∀ s : State, s.inReset = false →
    (s.lnc.lineBusy = false → s.ftx.frame = none → exec .frameMarkDetected s = .next (State.settle { s with
      frx := { s.frx with rx := if s.lnc.link.joined then some .marked else s.frx.rx }
      lnc := { s.lnc with
        lineBusy := true
        lineMet := false
        link := match s.lnc.link with
          | .up u => .up { u with sub := .listen, guard := none, dwell := none, silence := .held }
          | l => l } })) ∧
    (s.lnc.lineBusy = false → s.ftx.frame ≠ none →
      exec .frameMarkDetected s = .next (State.settle { s with lnc := { s.lnc with lineMet := true } })) ∧
    (s.lnc.lineBusy = true → exec .frameMarkDetected s = .next s)

/-- A good DATA or CTRL header in UP counts FRAMES_IN, clears unconfirmed, delivers its rcv_ack to JNL (out of range:
LINK_PROTOCOL; with NAK: NAK_RECEIVED, the reason, and the go-back), the water marks following the journal's change, and
its apl_ack to HLD and SWP: an OPEN hold it meets becomes REMOTE_MET, and is answered OKAY if its local status is known;
a DRAINING sweep it completes makes its region ACTIVE with RESYNC_DONE and the engine IDLE. With TURN consecutive missed
turns become 0. Everything else stays: E, the frame builder, the fields of every region, every other region, the resync
queue. Comparisons of sequence numbers are those of 00_scope (R10, R53, R54, R59, R64, R66, R86, R118, R127 to R129,
R165). -/
def Obligations.GoodHeaderDeliversItsAcknowledgments : Prop :=
  (∀ a b : Seq,
    (precedes a b = true ↔ 1 ≤ (b - a).toNat ∧ (b - a).toNat < 2 ^ 31) ∧
    (atOrBefore a b = true ↔ a = b ∨ precedes a b = true) ∧ (atOrAfter a b = true ↔ a = b ∨ precedes b a = true) ∧
    ∀ c : Seq, within a b c = true ↔ atOrAfter a b = true ∧ atOrBefore a c = true) ∧
  (∀ (a : Seq) (rs : List Record), freeBefore a rs = rs.dropWhile fun r => precedes r.seq a) ∧
  ∀ (s : State) (u : Turn) (bytes : List Byte), s.inReset = false → s.lnc.link = .up u →
    s.frx.rx = some .marked → bytes.length = 20 → headerGood bytes = true →
    (∀ k ∈ s.hld.holds, k.verdict = none) →
    let h := headerOf bytes
    h.type = some .data ∨ h.type = some .ctrl →
    let inRange := within h.rcvAck s.jnl.oldest s.jnl.sendPoint
    let counted := if h.nak then (s.mgp.count .framesIn).count .nakReceived else s.mgp.count .framesIn
    let freed : List Record := freeBefore h.rcvAck s.jnl.records
    let records := if inRange then
        (if h.nak then freed.map (fun r => if r.state = .sent then { r with state := .pending } else r) else freed)
      else s.jnl.records
    let acked := State.setRecords records { s with mgp := counted }
    let mgp := if inRange then (if h.nak then acked.mgp.count .goBacks else acked.mgp)
      else counted.raise .linkProtocol
    let reached := fun q : Seq => atOrAfter h.aplAck (q + 1) && atOrBefore h.aplAck s.jnl.nextSeq
    let met := fun k : Hold => decide (k.state = .openHold) && reached k.seq
    let answered := fun k : Hold => met k && decide (k.localStatus = some .okay)
    let swept : Option RegionIx := match s.swp.engine with
      | .draining c => if c.lastSeq.any reached then some c.region else none
      | _ => none
    exec (.headerReceived bytes) s = .next (State.settle { s with
      jnl := acked.jnl
      hld := ⟨(s.hld.holds.filter fun k => !answered k).map fun k =>
        if met k then { k with state := .remoteMet } else k⟩
      upi := { s.upi with responses := s.upi.responses ++
        (s.hld.holds.filter answered).map fun k => ⟨k.tag, .okay, []⟩ }
      swp := if swept.isSome then { s.swp with engine := .idle } else s.swp
      rgt := match swept with
        | some x => if (s.region x).state = .resyncing
            then ⟨s.rgt.entries.set x { s.region x with state := .active }⟩ else s.rgt
        | none => s.rgt
      mgp := if swept.isSome then mgp.raise .resyncDone else mgp
      frx := { s.frx with rx := some (.header h), lastNak := if h.nak then h.reason else s.frx.lastNak }
      lnc := { s.lnc with
        unconfirmed := false
        link := .up (if h.turn then { u with missed := 0 } else u) } })

/-- A bad header counts HDR_CRC_ERR and acts on nothing else. A good HELLO without REPLY while UP takes the link DOWN
with cause PEER_RETRAIN, and on to TRAINING with a retrain delay of 0; any other HELLO, a START and an undefined type in
UP, and every header in TRAINING, count FRAMES_IN and act on nothing more at the header (R119, R127, R156, R157,
R182). -/
def Obligations.OtherHeaders : Prop :=
  ∀ (s : State) (bytes : List Byte), s.inReset = false → s.frx.rx = some .marked → bytes.length = 20 →
    let h := headerOf bytes
    let quiet : State := { s with
      frx := { s.frx with rx := some (.header h) }
      mgp := s.mgp.count .framesIn }
    (headerGood bytes = false → exec (.headerReceived bytes) s = .next (State.settle { s with
      frx := { s.frx with rx := some .badHeader }
      mgp := s.mgp.count .hdrCrcErr })) ∧
    (headerGood bytes = true → (∃ t, s.lnc.link = .training t) →
      exec (.headerReceived bytes) s = .next quiet.settle) ∧
    (headerGood bytes = true → (∃ u, s.lnc.link = .up u) →
      h.type = none ∨ h.type = some .start ∨ (h.type = some .hello ∧ h.reply = true) →
      exec (.headerReceived bytes) s = .next quiet.settle) ∧
    (headerGood bytes = true → (∃ u, s.lnc.link = .up u) → h.type = some .hello → h.reply = false →
      exec (.headerReceived bytes) s = .next (State.settle { s with
        mgp := (s.mgp.count .framesIn).raise .linkDown
        ftx := ⟨none, none⟩
        frx := { s.frx with rx := none }
        lnc := { s.lnc with
          link := s.lnc.fallen s.now
          lastCause := some .peerRetrain
          fresh := s.lnc.fresh || s.lnc.unconfirmed
          unconfirmed := false } }))

/-- The end of a DATA frame with a good header in UP: the first failing check of R130 decides. A bad or short body:
BODY_CRC_ERR and NAK(CRC); a malformed one: LINK_PROTOCOL and NAK(FORMAT); a gap: NAK(GAP); a whole duplicate:
DUPLICATES; no room: NAK(BUSY); otherwise the new records join the apply queue, E moves to F + n and a pending NAK is
cleared. Then TURN hands over the line, or the silence timer starts again (R117, R118, R130 to R136). When a body is bad
and when a frame is malformed is written out in LineFormatsReadBack. -/
def Obligations.DataFrameEnd : Prop :=
  (∀ (q : Seq) (w : WireRecord) (ws : List WireRecord), applyRecords q [] = [] ∧ applyRecords q (w :: ws) =
    ⟨q, w.kind, w.remoteAddr, w.length, w.mask, w.data, .waiting⟩ :: applyRecords (q + 1) ws) ∧
  (∀ l : List ApplyRec, applyBytesOf l = (l.map fun r => (r.length + 15) / 16 * 16).sum) ∧
  (∀ n : Nat, ceil16 n = (n + 15) / 16 * 16) ∧
  ∀ (s : State) (u : Turn) (h : Header) (body : List Byte), s.inReset = false → s.lnc.link = .up u →
    u.sub = .listen → u.silence = .held → s.lnc.lineBusy = true → s.frx.rx = some (.header h) →
    h.type = some .data →
    let e := s.frx.expected
    let f := h.firstSeq
    let n := BitVec.ofNat 32 h.count
    let lnc : Lnc := { s.lnc with
      lineBusy := false
      lineMet := false
      link := .up (if h.turn
        then { u with sub := .guard, guard := some ⟨s.now, s.lnc.params.guard⟩, dwell := none, silence := .stopped }
        else { u with guard := none, dwell := none, silence := .running ⟨s.now, s.lnc.params.silence⟩ }) }
    let nak := fun (q : NakReason) (m : Mgp) => exec (.frameEnd body) s = .next (State.settle { s with
      lnc := lnc
      frx := { s.frx with rx := none }
      ftx := { s.ftx with pendingNak := some q }
      mgp := m })
    let badBody := h.lengthClass ≤ 5 ∧ bodyGood h.lengthClass body = false
    (badBody → nak .crc (s.mgp.count .bodyCrcErr)) ∧
    (¬ badBody → frameRecords h body = none → nak .format (s.mgp.raise .linkProtocol)) ∧
    (∀ recs, ¬ badBody → frameRecords h body = some recs →
      (precedes e f = true ∨ (f - e).toNat = 2 ^ 31 → nak .gap s.mgp) ∧
      (atOrBefore f e = true → atOrBefore (f + n) e = true →
        exec (.frameEnd body) s = .next (State.settle { s with
          lnc := lnc
          frx := { s.frx with rx := none }
          mgp := s.mgp.count .duplicates })) ∧
      (atOrBefore f e = true → atOrBefore (f + n) e = false →
        let new := recs.drop (e - f).toNat
        let fits := s.apl.queue.length + new.length ≤ 512 ∧
          applyBytesOf s.apl.queue + (new.map fun w => ceil16 w.length).sum ≤ 65536
        (¬ fits → nak .busy s.mgp) ∧
        (fits → exec (.frameEnd body) s = .next (State.settle { s with
          lnc := lnc
          frx := { s.frx with rx := none, expected := f + n }
          ftx := { s.ftx with pendingNak := none }
          apl := { s.apl with queue := s.apl.queue ++ applyRecords e new } }))))

/-- Every other frame end. In UP a CTRL frame hands over the line with TURN and otherwise starts the silence timer
again, whatever bytes follow its header; a HELLO, a START or an undefined type takes no part in turns; a frame that ends
before its 22nd byte counts HDR_CRC_ERR, one with a bad header nothing more. When the line returns to idle after a frame
whose mark this node did not detect, as after a collision, a node in LISTEN starts its silence timer again, a training
frame that waits can start, and elsewhere nothing happens (DEDUCED, assumption log 17). In DOWN and DISABLED a frame is
not received. In TRAINING a short frame counts HDR_CRC_ERR, and these are ignored: a bad header, DATA, CTRL and
undefined types, a bad body, role, window or decision, and the frames R159 and R160 ignore by phase (R117 to R119, R127,
R157 to R160, R182; a training frame of any length class, DEDUCED, assumption log 9; that an ignored HELLO leaves the
peer window, DEDUCED, assumption log 10). -/
def Obligations.OtherFrameEnds : Prop :=
  (∀ (s : State) (u : Turn) (rest : List Byte), s.inReset = false → s.lnc.link = .up u → u.sub = .listen →
    u.silence = .held → s.lnc.lineBusy = true →
    let after := fun (turn : Bool) (m : Mgp) => exec (.frameEnd rest) s = .next (State.settle { s with
      lnc := { s.lnc with
        lineBusy := false
        lineMet := false
        link := .up (if turn
          then { u with sub := .guard, guard := some ⟨s.now, s.lnc.params.guard⟩, dwell := none,
                        silence := .stopped }
          else { u with guard := none, dwell := none, silence := .running ⟨s.now, s.lnc.params.silence⟩ }) }
      frx := { s.frx with rx := none }
      mgp := m })
    (∀ h, s.frx.rx = some (.header h) → h.type = some .ctrl → after h.turn s.mgp) ∧
    (∀ h, s.frx.rx = some (.header h) → h.type = none ∨ h.type = some .hello ∨ h.type = some .start →
      after false s.mgp) ∧
    (s.frx.rx = some .badHeader → after false s.mgp) ∧
    (s.frx.rx = some .marked → after false (s.mgp.count .hdrCrcErr)) ∧
    (s.frx.rx = none → after false s.mgp)) ∧
  (∀ (s : State) (rest : List Byte), s.inReset = false → s.lnc.lineBusy = false →
    (∀ u, s.lnc.link = .up u → u.sub = .listen →
      exec (.frameEnd rest) s = .next (State.settle { s with lnc := { s.lnc with
        lineMet := false
        link := .up { u with
          guard := none, dwell := none, silence := .running ⟨s.now, s.lnc.params.silence⟩ } } })) ∧
    ((∀ u, s.lnc.link = .up u → u.sub ≠ .listen) →
      (s.lnc.lineMet = true →
        exec (.frameEnd rest) s = .next (State.settle { s with lnc := { s.lnc with lineMet := false } })) ∧
      (s.lnc.lineMet = false → exec (.frameEnd rest) s = .next s))) ∧
  (∀ (s : State) (rest : List Byte), s.inReset = false → s.lnc.lineBusy = true →
    let ignored := fun (m : Mgp) => exec (.frameEnd rest) s = .next (State.settle { s with
      lnc := { s.lnc with lineBusy := false, lineMet := false }
      frx := { s.frx with rx := none }
      mgp := m })
    (s.linkUp = false → s.frx.rx = none → ignored s.mgp) ∧
    (∀ t, s.lnc.link = .training t →
      (s.frx.rx = some .marked → ignored (s.mgp.count .hdrCrcErr)) ∧
      (s.frx.rx = some .badHeader → ignored s.mgp) ∧
      (∀ h, s.frx.rx = some (.header h) →
        (h.type = none ∨ h.type = some .data ∨ h.type = some .ctrl → ignored s.mgp) ∧
        (bodyGood 0 rest = false → ignored s.mgp) ∧
        (h.type = some .hello → helloOf rest = none → ignored s.mgp) ∧
        (h.type = some .start → decisionOf (rest.getD 0 0) = none → ignored s.mgp) ∧
        (∀ b, h.type = some .hello → helloOf rest = some b →
          (t.phase = .calling ∨ t.phase = .starting → h.reply = true → b.role = .primary → ignored s.mgp) ∧
          (t.phase = .starting → h.reply = true → b.role = .secondary → ignored s.mgp) ∧
          (h.reply = false → b.role = .secondary → ignored s.mgp) ∧
          (t.phase = .waiting ∨ t.phase = .replying ∨ t.phase = .replied → h.reply = true → ignored s.mgp)) ∧
        (h.type = some .start → t.phase = .calling ∨ t.phase = .starting → ignored s.mgp))))

/-! ### Training -/

/-- The decision at the good REPLY is NEW when either node's FRESH is set or either node's E does not lie within the
other's oldest and next seq, and RESUME otherwise (R161). -/
def Obligations.DecisionIsNewUnlessBothAgree : Prop :=
  ∀ (s : State) (replyFresh : Bool) (b : HelloBody),
    (s.sessionDecision replyFresh b = .newSession ↔
      s.lnc.fresh = true ∨ replyFresh = true ∨ within b.expected s.jnl.oldest s.jnl.nextSeq = false ∨
        within s.frx.expected b.oldest b.nextSeq = false) ∧
    (s.sessionDecision replyFresh b = .resume ∨ s.sessionDecision replyFresh b = .newSession)

/-- A good HELLO ends at a node in TRAINING. The primary in CALLING decides at a secondary's REPLY, applies the
decision to every block (SessionAppliedInEveryBlock) and waits in STARTING with its guard running and unconfirmed set;
a HELLO without REPLY from another primary takes it DOWN with ROLE_CONFLICT in either phase, and on to TRAINING with a
retrain delay of 0; the secondary stores a primary's HELLO and waits in REPLYING with its guard running (R156, R158 to
R163; the peer window is that of the HELLOs acted on, assumption log 10; a HELLO of any length class, assumption
log 9). -/
def Obligations.HelloEndsInTraining : Prop :=
  ∀ (s : State) (t : Training) (h : Header) (rest : List Byte) (b : HelloBody), s.inReset = false →
    s.lnc.link = .training t → s.lnc.lineBusy = true → s.frx.rx = some (.header h) → h.type = some .hello →
    bodyGood 0 rest = true → helloOf rest = some b →
    let heard : State := { s with
      frx := { s.frx with rx := none }
      lnc := { s.lnc with lineBusy := false, lineMet := false, peerWindow := some b.window } }
    (t.phase = .calling → h.reply = true → b.role = .secondary →
      let d := s.sessionDecision h.fresh b
      let v : State := { heard.applySession d b.expected with
        lnc := { heard.lnc with
          fresh := false
          unconfirmed := true
          link := .training { t with
            phase := .starting
            guard := some ⟨s.now, s.lnc.params.guard⟩
            hello := none
            decision := some d
            want := none } } }
      exec (.frameEnd rest) s = .next v.settle ∧
        (d = .newSession → v.jnl.records = [] ∧ v.jnl.nextSeq = 0 ∧ v.frx.expected = 0 ∧ v.apl.applied = 0 ∧
          v.apl.queue = []) ∧
        (d = .resume →
          v.jnl.records = (freeBefore b.expected s.jnl.records).map (fun r =>
            { r with sendCount := 0, state := if r.state = .sent then .pending else r.state }) ∧
          v.jnl.nextSeq = s.jnl.nextSeq ∧ v.frx.expected = s.frx.expected ∧ v.apl = s.apl ∧ v.hld = s.hld ∧
          v.rgt = s.rgt ∧ v.swp = s.swp ∧ v.dnp = s.dnp)) ∧
    (t.phase = .calling ∨ t.phase = .starting → h.reply = false → b.role = .primary →
      exec (.frameEnd rest) s = .next (State.settle { s with
        ftx := ⟨none, none⟩
        frx := { s.frx with rx := none }
        lnc := { s.lnc with
          lineBusy := false
          lineMet := false
          peerWindow := some b.window
          link := s.lnc.fallen s.now
          lastCause := some .roleConflict
          fresh := s.lnc.fresh || s.lnc.unconfirmed
          unconfirmed := false }
        mgp := s.mgp.raise .linkDown })) ∧
    (t.phase = .waiting ∨ t.phase = .replying ∨ t.phase = .replied → h.reply = false → b.role = .primary →
      exec (.frameEnd rest) s = .next (State.settle { heard with
        lnc := { heard.lnc with
          link := .training { t with
            phase := .replying
            storedE := some b.expected
            guard := some ⟨s.now, s.lnc.params.guard⟩
            want := none } } }))

/-- A good START at the secondary in REPLIED applies the decision it carries to every block (SessionAppliedInEveryBlock)
and takes the link UP in GUARD with its guard running and LINK_UP; in WAITING and REPLYING it is ignored (R110, R160,
R162, R163; a START of any length class, assumption log 9). -/
def Obligations.StartEndsTraining : Prop :=
  ∀ (s : State) (t : Training) (h : Header) (rest : List Byte) (d : Decision), s.inReset = false →
    s.lnc.link = .training t → s.lnc.lineBusy = true → s.frx.rx = some (.header h) → h.type = some .start →
    bodyGood 0 rest = true → decisionOf (rest.getD 0 0) = some d →
    let heard : State := { s with
      frx := { s.frx with rx := none }
      lnc := { s.lnc with lineBusy := false, lineMet := false } }
    (∀ e, t.phase = .replied → t.storedE = some e →
      let w := heard.applySession d e
      let v : State := { w with
        lnc := { heard.lnc with
          fresh := false
          link := .up ⟨.guard, some ⟨s.now, s.lnc.params.guard⟩, none, .stopped, 0, false, 0, 0⟩ }
        mgp := w.mgp.raise .linkUp }
      exec (.frameEnd rest) s = .next v.settle ∧
        (d = .newSession → v.jnl.records = [] ∧ v.jnl.nextSeq = 0 ∧ v.frx.expected = 0 ∧ v.apl.applied = 0 ∧
          v.apl.queue = [] ∧ v.mgp.events[EventKind.sessionNew.ix].pending = true) ∧
        (d = .resume → v.jnl.nextSeq = s.jnl.nextSeq ∧ v.frx.expected = s.frx.expected ∧ v.apl = s.apl ∧
          v.hld = s.hld ∧ v.rgt = s.rgt ∧ v.swp = s.swp ∧
          v.jnl.records = (freeBefore e s.jnl.records).map (fun r =>
            { r with sendCount := 0, state := if r.state = .sent then .pending else r.state }))) ∧
    (t.phase = .waiting ∨ t.phase = .replying → exec (.frameEnd rest) s = .next heard.settle)

/-- A NEW decision at a node. The OPEN holds are resolved in order of deadline and tag: one becomes WAIVED when an OPEN
hold of its region with action DEGRADE stands at or before it in that order, and FAILED otherwise; SYNC_TIMEOUT is
raised and SYNC_TIMEOUTS counted for each that no such hold stands before; the mode of a region with such a hold becomes
ASYNC; one whose local status is known is answered, FAULT if it FAILED and OKAY if WAIVED; the other holds stay. Every
SOURCE region that was ACTIVE, RESYNCING or DIVERGED ends RESYNCING with auto-resync ON and DIVERGED without, with
REGION_DIVERGED and its mask bit for each that was not DIVERGED; the resync queue holds the RESYNCING ones in ascending
order with the engine IDLE; the rest of the table stays. The journal is empty at next seq 0 with the latch clear; E and
A are 0 and the apply queue empty; APL and SWP entries are abandoned, in-flight apply writes orphaned; SESSIONS_NEW and
SESSION_NEW are counted and raised, FRESH is cleared, and everything else stays. A RESUME frees the records before the
peer's E, makes the rest PENDING with send count 0, evaluates the water marks, counts SESSIONS_RESUMED and clears FRESH,
and no other block changes (R13, R36, R56, R57, R59, R69, R72, R76, R90, R126, R150, R162). -/
def Obligations.SessionAppliedInEveryBlock : Prop :=
  (∀ (s : State) (e : Seq), (s.hld.holds.map Hold.tag).Nodup → (∀ k ∈ s.hld.holds, k.verdict = none) →
    let t := s.applySession .newSession e
    let degrades := fun (x : RegionIx) (k : Hold) =>
      decide (k.state = .openHold) && decide (k.action = .degrade) && decide (k.region = x)
    let sooner := fun k h : Hold => decide (k.deadline < h.deadline ∨ (k.deadline = h.deadline ∧ k.tag < h.tag))
    let waived := fun h : Hold => s.hld.holds.any fun k => degrades h.region k && !sooner h k
    let passedBy := fun h : Hold => s.hld.holds.any fun k => degrades h.region k && sooner k h
    let expired := s.hld.holds.countP fun h => decide (h.state = .openHold) && !passedBy h
    let answered := fun h : Hold => decide (h.state = .openHold) && h.localStatus.isSome
    let resolved := fun h : Hold =>
      if h.state = .openHold then { h with state := if waived h then .waived else .failed } else h
    (∃ formed : List UpResponse, t.upi = { s.upi with responses := s.upi.responses ++ formed } ∧
      formed.Perm ((s.hld.holds.filter answered).map fun h => ⟨h.tag, if waived h then .okay else .fault, []⟩)) ∧
    t.hld.holds = (s.hld.holds.filter fun h => !answered h).map resolved ∧
    (∀ x : RegionIx, t.region x = { s.region x with
      fields := { (s.region x).fields with
        mode := if s.hld.holds.any (degrades x) then .async else (s.region x).fields.mode }
      state := if (s.region x).fields.direction = .source ∧ (s.region x).state ≠ .disabled
        then if (s.region x).fields.autoResync then .resyncing else .diverged
        else (s.region x).state }) ∧
    t.swp = ⟨(List.finRange 16).filter (fun x => decide ((s.region x).fields.direction = .source) &&
      decide ((s.region x).state ≠ .disabled) && (s.region x).fields.autoResync), .idle⟩ ∧
    t.mgp = ((List.finRange 16).filter fun x => decide ((s.region x).fields.direction = .source) &&
        (decide ((s.region x).state = .active) || decide ((s.region x).state = .resyncing))).foldl
      (fun m x => m.raiseDiverged x)
      (Nat.repeat (fun m => (m.raise .syncTimeout).count .syncTimeouts) expired
        ((s.mgp.count .sessionsNew).raise .sessionNew)) ∧
    t.jnl = { s.jnl with records := [], nextSeq := 0, latch := false } ∧
    t.frx = { s.frx with expected := 0 } ∧
    t.apl = ⟨0, [], 0, s.apl.inFlight.map fun f => { f with orphaned := true }⟩ ∧
    t.dnp = { s.dnp with outstanding := s.dnp.outstanding.map fun f => match f.owner with
      | .up _ _ => f
      | .apl _ => { f with abandoned := true }
      | .swp _ => { f with abandoned := true } } ∧
    t.lnc = { s.lnc with fresh := false } ∧
    t.ftx = s.ftx ∧ t.now = s.now ∧ t.inReset = s.inReset ∧ t.pending = s.pending) ∧
  (∀ (s : State) (e : Seq), s.applySession .resume e = State.evalMarks { s with
    lnc := { s.lnc with fresh := false }
    mgp := s.mgp.count .sessionsResumed
    jnl := { s.jnl with records := (freeBefore e s.jnl.records).map fun r =>
      { r with sendCount := 0, state := if r.state = .sent then .pending else r.state } } })

/-- The five timers of training and DOWN: the retrain timer takes the link to TRAINING with its context made; the hello
timer asks for another HELLO in CALLING; the guard asks for the REPLY in REPLYING and for the START in STARTING; the
training limit takes the link DOWN with cause TRAIN_TIMEOUT. Every entry to DOWN starts the retrain timer, and with a
retrain delay of 0 goes on to TRAINING in the same event (R156, R159, R160, R163, R164; assumption log 3 for the
timebase). -/
def Obligations.TrainingTimersExpire : Prop :=
  (∀ (l : Lnc) (now : Nat),
    let first := decide (l.params.role = .primary)
    (0 < l.params.retrainDelay → l.fallen now = .down ⟨now, l.params.retrainDelay * 1000⟩) ∧
    (l.params.retrainDelay = 0 → l.fallen now = .training ⟨if first then .calling else .waiting, none, none,
      ⟨now, l.params.trainingLimit * 1000⟩, none, none, if first then some .hello else none⟩)) ∧
  (∀ (s : State) (d : Timer), s.inReset = false → s.lnc.link = .down d →
    let now := max s.now (d.start + d.length)
    let first := decide (s.lnc.params.role = .primary)
    exec .retrainTimerExpiry s = .next (State.settle { s with
      now := now
      lnc := { s.lnc with link := .training ⟨if first then .calling else .waiting, none, none,
        ⟨now, s.lnc.params.trainingLimit * 1000⟩, none, none, if first then some .hello else none⟩ } })) ∧
  (∀ (s : State) (t : Training), s.inReset = false → s.lnc.link = .training t →
    (∀ d, t.phase = .calling → t.hello = some d →
      exec .helloTimerExpiry s = .next (State.settle { s with
        now := max s.now (d.start + d.length)
        lnc := { s.lnc with link := .training { t with hello := none, want := some .hello } } })) ∧
    (∀ g, t.phase = .replying → t.guard = some g →
      exec .replyGuardExpiry s = .next (State.settle { s with
        now := max s.now (g.start + g.bits * 4 / 1000)
        lnc := { s.lnc with link := .training { t with guard := none, want := some .reply } } })) ∧
    (∀ g, t.phase = .starting → t.guard = some g →
      exec .startGuardExpiry s = .next (State.settle { s with
        now := max s.now (g.start + g.bits * 4 / 1000)
        lnc := { s.lnc with link := .training { t with guard := none, want := some .start } } })) ∧
    (let now := max s.now (t.limit.start + t.limit.length)
     exec .trainingTimerExpiry s = .next (State.settle { s with
        now := now
        ftx := ⟨none, none⟩
        frx := { s.frx with rx := none }
        lnc := { s.lnc with
          link := s.lnc.fallen now
          lastCause := some .trainTimeout
          fresh := s.lnc.fresh || s.lnc.unconfirmed
          unconfirmed := false }
        mgp := s.mgp.raise .linkDown })))

/-- A training frame that is wanted starts on the line as soon as it is idle: a HELLO or REPLY with this node's role, E,
next seq, oldest, window and FRESH, or a START with TURN and the decision just applied; a HELLO starts the hello timer.
While a peer frame is on the line or this node drives it, the frame waits (R95, R97, R107, R159, R160, R163); that a
frame met in a collision is on the line until the line's return to idle is DEDUCED (assumption log 17). -/
def Obligations.WantedTrainingFrameStarts : Prop :=
  (∀ s : State, s.lnc.lineBusy = true ∨ s.lnc.lineMet = true ∨ s.ftx.frame ≠ none → s.sendWanted = s) ∧
  ∀ (s : State) (t : Training), s.lnc.link = .training t → s.lnc.lineBusy = false → s.lnc.lineMet = false →
    s.ftx.frame = none →
    let hello := fun (reply : Bool) => [0xD3, 0x5C] ++ encodeHeader ⟨some .hello, false, false, s.lnc.fresh, reply, 0,
        none, 0, 0, s.frx.expected, s.apl.applied⟩ ++
      buildBody 0 (encodeHello ⟨s.lnc.params.role, s.frx.expected, s.jnl.nextSeq, s.jnl.oldest, s.lnc.params.window⟩)
    (t.want = some .hello → s.sendWanted = { s with
      lnc := { s.lnc with
        link := .training { t with want := none, hello := some ⟨s.now, s.lnc.params.helloInterval⟩ } }
      ftx := { s.ftx with frame := some ⟨.hello, false, false, false, s.now, hello false⟩ } }) ∧
    (t.want = some .reply → s.sendWanted = { s with
      lnc := { s.lnc with link := .training { t with want := none } }
      ftx := { s.ftx with frame := some ⟨.hello, false, false, true, s.now, hello true⟩ } }) ∧
    (∀ d, t.want = some .start → t.decision = some d → s.sendWanted = { s with
      lnc := { s.lnc with link := .training { t with want := none } }
      ftx := { s.ftx with frame := some ⟨.start, true, false, false, s.now,
        [0xD3, 0x5C] ++ encodeHeader ⟨some .start, true, false, false, false, 0, none, 0, 0, s.frx.expected,
          s.apl.applied⟩ ++ buildBody 0 [d.code]⟩ } })

/-! ### The management port -/

/-- A transaction without a fall of MG_CSN since the release of RESET executes nothing. Any other shifts out the
response buffer as it stood, byte by byte and 0x00 past its end; one of the 20 requests whose payload length byte is
missing, differs from its fixed length or from the bytes received is answered BAD_LENGTH, an undefined code BAD_CODE,
and nothing else changes; a transaction without a complete byte leaves the buffer (R167 to R169). -/
def Obligations.TransactionsShiftOutAndAreChecked : Prop :=
  (∀ (n k : Nat) (s : State), s.shiftOut n k = { s with mgp := { s.mgp with
    miso := (List.range n).map fun i => s.mgp.response.bytes.getD i 0
    misoTail := (List.range k).map fun i => (s.mgp.response.bytes.getD n 0).getLsbD (7 - i) } }) ∧
  (∀ (request : Transaction → Instr) (len : Nat),
    (request, len) ∈ ([(.nop, 0), (.portIdent, 0), (.regionSet, 21), (.regionEnable, 1), (.regionDisable, 1),
      (.regionResync, 1), (.regionMode, 2), (.regionQuery, 1), (.linkSet, 18), (.linkEnable, 0), (.linkDisable, 0),
      (.linkRenew, 0), (.linkQuery, 0), (.journalSet, 8), (.journalQuery, 0), (.eventQuery, 0), (.eventAck, 2),
      (.eventEnable, 2), (.counterQuery, 1), (.counterZero, 1)] : List ((Transaction → Instr) × Nat)) →
    ∀ (t : Transaction) (s : State), s.inReset = false →
      let miso := (List.range (t.bytes.length + 1)).map fun k => s.mgp.response.bytes.getD k 0
      let misoTail := (List.range t.tail.length).map fun i =>
        (s.mgp.response.bytes.getD (t.bytes.length + 1) 0).getLsbD (7 - i)
      (t.fell = false → exec (request t) s = .next s) ∧
      (t.fell = true → (∀ l payload, t.bytes = l :: payload → l.toNat ≠ len ∨ payload.length ≠ len) →
        exec (request t) s = .next { s with
          mgp := { s.mgp with response := ⟨.badLength, []⟩, miso := miso, misoTail := misoTail } }) ∧
      (t.fell = true → ∃ v : State, exec (request t) s = .next v ∧ v.mgp.miso = miso ∧ v.mgp.misoTail = misoTail)) ∧
  (∀ (t : Transaction) (s : State), s.inReset = false → t.fell = true →
    (t.bytes = [] → exec (.undefinedRequest t) s = .next { s with
      mgp := { s.mgp with
        miso := []
        misoTail := (List.range t.tail.length).map fun i => (s.mgp.response.bytes.getD 0 0).getLsbD (7 - i) } }) ∧
    (∀ c rest, t.bytes = c :: rest → c ∉ requestCodes → exec (.undefinedRequest t) s = .next { s with
      mgp := { s.mgp with
        response := ⟨.badCode, []⟩
        miso := (List.range t.bytes.length).map fun k => s.mgp.response.bytes.getD k 0
        misoTail := (List.range t.tail.length).map fun i =>
          (s.mgp.response.bytes.getD t.bytes.length 0).getLsbD (7 - i) } }))

/-- NOP is answered OK with no payload and changes nothing; PORT.IDENT is answered OK with its fixed values, laid out as
12.2 gives them, in every state (R170). What a transaction shifts out is stated by
TransactionsShiftOutAndAreChecked. -/
def Obligations.NopAndPortIdentAnswer : Prop :=
  ∀ (t : Transaction) (s : State), s.inReset = false → t.fell = true → t.bytes = [0] →
    let u := s.shiftOut 2 t.tail.length
    exec (.nop t) s = .next { u with mgp := { u.mgp with response := ⟨.ok, []⟩ } } ∧
    exec (.portIdent t) s = .next { u with mgp := { u.mgp with response := ⟨.ok,
      [0x10, 0x18, 1, 16, 0x08, 0x00, 0x00, 0x02, 0x00, 0x00, 0x02, 0x00, 0x00, 0x01, 0x00, 0x00]⟩ } }

/-- REGION.SET: BAD_INDEX, then BAD_STATE unless DISABLED, then BAD_VALUE unless the payload is the encoding of ten
fields in their ranges; a refused request changes nothing in the entry, an accepted one replaces the ten fields at once
and leaves the entry's state and counters, the mask and every other entry (R2, R4). -/
def Obligations.RegionSetLoadsTheFields : Prop :=
  ∀ (t : Transaction) (s : State) (b : Byte) (p : List Byte), s.inReset = false → t.fell = true →
    t.bytes = 21 :: b :: p → p.length = 20 →
    let u := s.shiftOut 23 t.tail.length
    let refused := fun (st : Status) =>
      exec (.regionSet t) s = .next { u with mgp := { u.mgp with response := ⟨st, []⟩ } }
    (16 ≤ b.toNat → refused .badIndex) ∧
    (∀ r : RegionIx, b.toNat = r.val →
      ((s.region r).state ≠ .disabled → refused .badState) ∧
      ((s.region r).state = .disabled → (∀ f : RegionFields, f.inRange = true → p ≠ encodeFields f) →
        refused .badValue) ∧
      ((s.region r).state = .disabled → ∀ f : RegionFields, f.inRange = true → p = encodeFields f →
        exec (.regionSet t) s = .next { u with
          rgt := ⟨s.rgt.entries.set r { s.region r with fields := f }⟩
          mgp := { u.mgp with response := ⟨.ok, []⟩ } }))

/-- REGION.ENABLE: BAD_INDEX, then BAD_STATE unless DISABLED, then OVERLAP when some page lies in this entry and in
another that is not DISABLED. A TARGET entry becomes ACTIVE; a SOURCE entry becomes DIVERGED and, with auto-resync ON
and the link UP, RESYNCING with its index at the tail of the resync queue; no REGION_DIVERGED is raised (R5 to R7). -/
def Obligations.RegionEnableTestsTheOverlap : Prop :=
  ∀ (t : Transaction) (s : State) (b : Byte), s.inReset = false → t.fell = true → t.bytes = [1, b] →
    s.rgt.inRange = true →
    let u := s.shiftOut 3 t.tail.length
    let refused := fun (st : Status) =>
      exec (.regionEnable t) s = .next { u with mgp := { u.mgp with response := ⟨st, []⟩ } }
    (16 ≤ b.toNat → refused .badIndex) ∧
    (∀ r : RegionIx, b.toNat = r.val →
      let f := (s.region r).fields
      let overlap := ∃ (q : RegionIx) (page : Nat), q ≠ r ∧ (s.region q).state ≠ .disabled ∧
        f.basePage ≤ page ∧ page < f.basePage + f.size ∧
        (s.region q).fields.basePage ≤ page ∧ page < (s.region q).fields.basePage + (s.region q).fields.size
      let resync := f.autoResync && s.linkUp
      ((s.region r).state ≠ .disabled → refused .badState) ∧
      ((s.region r).state = .disabled → overlap → refused .overlap) ∧
      ((s.region r).state = .disabled → ¬ overlap →
        (f.direction = .target → exec (.regionEnable t) s = .next (State.settle { u with
          rgt := ⟨s.rgt.entries.set r { s.region r with state := .active }⟩
          mgp := { u.mgp with response := ⟨.ok, []⟩ } })) ∧
        (f.direction = .source → exec (.regionEnable t) s = .next (State.settle { u with
          rgt := ⟨s.rgt.entries.set r { s.region r with state := if resync then .resyncing else .diverged }⟩
          swp := { s.swp with queue := if resync then s.swp.queue ++ [r] else s.swp.queue }
          mgp := { u.mgp with response := ⟨.ok, []⟩ } }))))

/-- REGION.DISABLE makes a live entry DISABLED, takes its index out of the resync queue and aborts its sweep, and is
answered OK, also for a DISABLED entry. REGION.RESYNC makes a DIVERGED SOURCE entry RESYNCING at the tail of the resync
queue. REGION.MODE sets the mode of a live SOURCE entry. Each is refused with BAD_INDEX outside 0 to 15, the last two
with BAD_STATE elsewhere, REGION.MODE with BAD_VALUE for an undefined code (R8, R11, R12, R79, R91, R171). -/
def Obligations.RegionDisableResyncAndMode : Prop :=
  ∀ (t : Transaction) (s : State) (b : Byte), s.inReset = false → t.fell = true →
    let u := fun (n : Nat) (st : Status) (v : State) =>
      { v.shiftOut n t.tail.length with
        mgp := { (v.shiftOut n t.tail.length).mgp with response := ⟨st, []⟩ } }
    (16 ≤ b.toNat →
      (t.bytes = [1, b] → exec (.regionDisable t) s = .next (u 3 .badIndex s) ∧
        exec (.regionResync t) s = .next (u 3 .badIndex s)) ∧
      (∀ m, t.bytes = [2, b, m] → exec (.regionMode t) s = .next (u 4 .badIndex s))) ∧
    (∀ r : RegionIx, b.toNat = r.val →
      let e := s.region r
      (t.bytes = [1, b] →
        (e.state = .disabled → exec (.regionDisable t) s = .next (u 3 .ok s)) ∧
        (e.state ≠ .disabled → exec (.regionDisable t) s = .next (State.settle { u 3 .ok s with
          rgt := ⟨s.rgt.entries.set r { e with state := .disabled }⟩
          swp :=
            { queue := s.swp.queue.filter fun q => decide (q ≠ r)
              engine := if s.swp.engine.ctx?.any fun c => decide (c.region = r) then .idle else s.swp.engine } })) ∧
        (e.fields.direction = .source → e.state = .diverged →
          exec (.regionResync t) s = .next (State.settle { u 3 .ok s with
            rgt := ⟨s.rgt.entries.set r { e with state := .resyncing }⟩
            swp := { s.swp with queue := s.swp.queue ++ [r] } })) ∧
        (e.fields.direction = .target ∨ e.state ≠ .diverged →
          exec (.regionResync t) s = .next (u 3 .badState s))) ∧
      (∀ m : Byte, t.bytes = [2, b, m] →
        (e.fields.direction = .target ∨ e.state = .disabled → exec (.regionMode t) s = .next (u 4 .badState s)) ∧
        (e.fields.direction = .source → e.state ≠ .disabled → 2 ≤ m.toNat →
          exec (.regionMode t) s = .next (u 4 .badValue s)) ∧
        (e.fields.direction = .source → e.state ≠ .disabled → ∀ mode : Mode, m = mode.code →
          exec (.regionMode t) s = .next { u 4 .ok s with
            rgt := ⟨s.rgt.entries.set r { e with fields := { e.fields with mode := mode } }⟩ })))

/-- LINK.SET replaces the ten link parameters at once while the link is DISABLED, with BAD_STATE elsewhere and BAD_VALUE
unless the payload encodes parameters in range with silence at least twice the dwell. JOURNAL.SET replaces the two marks
and the reserve at once in every state and evaluates the water marks, with BAD_VALUE unless every value lies in its
range and low is below high (R37, R59, R153, R173, R175). -/
def Obligations.LinkAndJournalSettingsAreReplaced : Prop :=
  ∀ (t : Transaction) (s : State) (p : List Byte), s.inReset = false → t.fell = true →
    let u := s.shiftOut (p.length + 2) t.tail.length
    let answered := fun (st : Status) => { u with mgp := { u.mgp with response := ⟨st, []⟩ } }
    (t.bytes = 18 :: p → p.length = 18 →
      (s.lnc.link ≠ .disabled → exec (.linkSet t) s = .next (answered .badState)) ∧
      (s.lnc.link = .disabled → (∀ q : LinkParams, q.inRange = true → p ≠ encodeParams q) →
        exec (.linkSet t) s = .next (answered .badValue)) ∧
      (s.lnc.link = .disabled → ∀ q : LinkParams, q.inRange = true → p = encodeParams q →
        exec (.linkSet t) s = .next { answered .ok with lnc := { s.lnc with params := q } })) ∧
    (t.bytes = 8 :: p → p.length = 8 →
      let encodes := fun (high low desc bytes : Nat) =>
        p = beBytes 1 high ++ beBytes 1 low ++ beBytes 2 desc ++ beBytes 4 bytes ∧
          1 ≤ high ∧ high ≤ 100 ∧ low < high ∧ desc ≤ 1024 ∧ bytes ≤ 65536
      ((∀ high low desc bytes, ¬ encodes high low desc bytes) →
        exec (.journalSet t) s = .next (answered .badValue)) ∧
      (∀ high low desc bytes, encodes high low desc bytes →
        let rises := s.jnl.latch = false ∧ high ≤ s.jnl.occupancy
        let falls := s.jnl.latch = true ∧ s.jnl.occupancy ≤ low
        ∃ v : State, exec (.journalSet t) s = .next v ∧
          v.jnl = { s.jnl with
            highMark := high, lowMark := low, reserveDesc := desc, reserveBytes := bytes, latch := v.jnl.latch } ∧
          (rises → v.jnl.latch = true ∧ v.mgp = (answered .ok).mgp.raise .jnlHigh) ∧
          (falls → v.jnl.latch = false ∧ v.mgp = (answered .ok).mgp.raise .jnlLow) ∧
          (¬ rises → ¬ falls → v.jnl.latch = s.jnl.latch ∧ v.mgp = (answered .ok).mgp) ∧
          v.upi = s.upi ∧ v.rgt = s.rgt ∧ v.dnp = s.dnp ∧ v.hld = s.hld ∧ v.swp = s.swp ∧ v.ftx = s.ftx ∧
          v.lnc = s.lnc ∧ v.frx = s.frx ∧ v.apl = s.apl ∧ v.now = s.now))

/-- LINK.ENABLE takes a DISABLED link to TRAINING, the training timer started, and is refused with BAD_STATE elsewhere.
LINK.DISABLE takes any link to DISABLED: SENT records become PENDING, a frame in progress or in reception ends, cause
DISABLED from UP and TRAINING, LINK_DOWN from UP only; E, the apply queue, the holds and the sweep stay. LINK.RENEW sets
FRESH and takes UP and TRAINING to DOWN with cause RENEW, and on to TRAINING with a retrain delay of 0 (R55, R94, R105,
R137, R154 to R156, R159, R160, R164, R165). -/
def Obligations.LinkEnableDisableAndRenew : Prop :=
  (∀ s : State, (s.linkUp = true ↔ ∃ u, s.lnc.link = .up u) ∧
    (s.lnc.link.joined = true ↔ (∃ t, s.lnc.link = .training t) ∨ ∃ u, s.lnc.link = .up u)) ∧
  ∀ (t : Transaction) (s : State), s.inReset = false → t.fell = true → t.bytes = [0] →
    let u := s.shiftOut 2 t.tail.length
    let answered := fun (st : Status) => { u with mgp := { u.mgp with response := ⟨st, []⟩ } }
    let ok := (answered .ok).mgp
    let first := decide (s.lnc.params.role = .primary)
    (s.lnc.link = .disabled → exec (.linkEnable t) s = .next (State.settle { answered .ok with
      lnc := { s.lnc with link := .training ⟨if first then .calling else .waiting, none, none,
        ⟨s.now, s.lnc.params.trainingLimit * 1000⟩, none, none, if first then some .hello else none⟩ } })) ∧
    (s.lnc.link ≠ .disabled → exec (.linkEnable t) s = .next (answered .badState)) ∧
    (s.lnc.link = .disabled → exec (.linkDisable t) s = .next (answered .ok).settle) ∧
    (s.lnc.link ≠ .disabled →
      exec (.linkDisable t) s = .next (State.settle { answered .ok with
        jnl := { s.jnl with
          records := s.jnl.records.map fun r => if r.state = .sent then { r with state := .pending } else r }
        ftx := if s.lnc.link.joined then ⟨none, none⟩ else s.ftx
        frx := if s.lnc.link.joined then { s.frx with rx := none } else s.frx
        lnc := { s.lnc with
          link := .disabled
          lastCause := if s.lnc.link.joined then some .disabled else s.lnc.lastCause
          fresh := s.lnc.fresh || (s.lnc.link.joined && s.lnc.unconfirmed)
          unconfirmed := !s.lnc.link.joined && s.lnc.unconfirmed }
        mgp := if s.linkUp then ok.raise .linkDown else ok })) ∧
    (s.lnc.link.joined = false →
      exec (.linkRenew t) s = .next (State.settle { answered .ok with lnc := { s.lnc with fresh := true } })) ∧
    (s.lnc.link.joined = true →
      exec (.linkRenew t) s = .next (State.settle { answered .ok with
        ftx := ⟨none, none⟩
        frx := { s.frx with rx := none }
        lnc := { s.lnc with
          link := s.lnc.fallen s.now
          lastCause := some .renew
          fresh := true
          unconfirmed := false }
        mgp := ok.raise .linkDown }))

/-- REGION.QUERY, LINK.QUERY and JOURNAL.QUERY are answered OK in every state with the items of R172, R174 and R175 as
12.2 lays them out, and change nothing else (that the latch byte is 0x01 when set and 0x00 when clear is the model's
choice: DESIGN CHOICE, assumption log 26); REGION.QUERY is refused with BAD_INDEX outside 0 to 15. The next chunk of a
region that ends at the top of the address space is a free value once all is granted (assumption log 11). -/
def Obligations.QueriesReportTheState : Prop :=
  ∀ (t : Transaction) (s : State), s.inReset = false → t.fell = true →
    let answered := fun (st : Status) (payload : List Byte) =>
      let u := s.shiftOut (t.bytes.length + 1) t.tail.length
      { u with mgp := { u.mgp with response := ⟨st, payload⟩ } }
    (∀ b : Byte, t.bytes = [1, b] → 16 ≤ b.toNat → exec (.regionQuery t) s = .next (answered .badIndex [])) ∧
    (∀ (b : Byte) (r : RegionIx), t.bytes = [1, b] → b.toNat = r.val →
      ∃ sweep : List Byte,
        exec (.regionQuery t) s = .next (answered .ok
          ([b] ++ encodeFields (s.region r).fields ++ [(s.region r).state.code] ++ sweep)) ∧
        sweep.length = 6 ∧
        (r ∈ s.swp.queue → sweep = [1, 0, 0, 0, 0, BitVec.ofNat 8 (s.swp.queue.idxOf r)] ∨
          256 ≤ s.swp.queue.length) ∧
        (r ∉ s.swp.queue → ∀ c, s.swp.engine = .reading c → c.region = r →
          c.nextChunk < 2 ^ 40 → sweep = 2 :: beBytes 5 c.nextChunk) ∧
        (r ∉ s.swp.queue → ∀ c q, s.swp.engine = .draining c → c.region = r → c.lastSeq = some q →
          sweep = [3, 0] ++ beBytes 4 q.toNat) ∧
        (r ∉ s.swp.queue → (∀ c, s.swp.engine.ctx? = some c → c.region ≠ r) → sweep = [0, 0, 0, 0, 0, 0])) ∧
    (t.bytes = [0] →
      exec (.linkQuery t) s = .next (answered .ok
        ([s.lnc.link.code, causeCode s.lnc.lastCause, 
            BitVec.ofNat 8 (128 * s.lnc.fresh.toNat + 64 * s.lnc.unconfirmed.toNat)] ++
          (match s.lnc.link with
            | .training c => [c.phase.code, 0, 0, 0]
            | .up v => [0, v.sub.code, BitVec.ofNat 8 v.missed, BitVec.ofNat 8 v.collisions]
            | _ => [0, 0, 0, 0]) ++
          encodeParams s.lnc.params ++ beBytes 2 (s.lnc.peerWindow.getD 0) ++ [nakCode s.ftx.pendingNak] ++
          beBytes 4 s.frx.expected.toNat ++ [nakCode s.frx.lastNak] ++ beBytes 4 s.apl.applied.toNat ++
          beBytes 2 s.apl.queue.length ++ beBytes 4 (s.apl.queue.map fun r => ceil16 r.length).sum ++
          beBytes 1 s.apl.inFlight.length ++ beBytes 1 (s.apl.inFlight.countP fun e => e.orphaned))) ∧
      exec (.journalQuery t) s = .next (answered .ok
        (beBytes 1 (max (100 * s.jnl.records.length / 2048) (100 * s.jnl.bytes / 131072)) ++
          beBytes 2 s.jnl.records.length ++ beBytes 4 s.jnl.bytes ++ beBytes 4 s.jnl.oldest.toNat ++
          beBytes 4 s.jnl.sendPoint.toNat ++ beBytes 4 s.jnl.nextSeq.toNat ++
          beBytes 2 (s.jnl.records.countP fun r => decide (r.state = .sent)) ++
          beBytes 2 (s.jnl.records.countP fun r => decide (r.state = .pending)) ++
          beBytes 2 (s.jnl.records.countP fun r => decide (r.state = .filling)) ++
          [if s.jnl.latch then 1 else 0] ++ beBytes 1 s.jnl.highMark ++ beBytes 1 s.jnl.lowMark ++
          beBytes 2 s.jnl.reserveDesc ++ beBytes 4 s.jnl.reserveBytes)))

/-- A raise makes its kind pending and counts it up to 255, REGION_DIVERGED with the region's flag in the mask (R176); a
counter rises by 1 up to 2^32 - 1 (R17, R179); kinds and counters have the numbers of 12.2. EK_INT is asserted while
some kind is both pending and enabled (R177). EVENT.QUERY reports the flags, counts, masks and the level of EK_INT and
changes nothing; EVENT.ACK clears flag and count of the kinds it names, and the region-diverged mask with
REGION_DIVERGED, and returns what it cleared; EVENT.ENABLE replaces the enable mask (R178). That the byte for EK_INT is
0x01 when asserted and 0x00 when not is the model's choice (DESIGN CHOICE, assumption log 26). -/
def Obligations.EventsAreRaisedReadAcknowledgedAndEnabled : Prop :=
  (∀ (m : Mgp) (k : EventKind),
    let n := m.events[k.ix].count
    m.raise k = { m with events := m.events.set k.ix ⟨true, if n.toNat = 255 then 255 else n + 1⟩ }) ∧
  (∀ (m : Mgp) (x : RegionIx),
    m.raiseDiverged x = { m.raise .regionDiverged with divergedMask := m.divergedMask.set x true }) ∧
  (∀ (m : Mgp) (c : DevCounter),
    let n := m.counters[c.ix]
    m.count c = { m with counters := m.counters.set c.ix (if n.toNat = 2 ^ 32 - 1 then n else n + 1) }) ∧
  (∀ c : BitVec 32, (satInc c).toNat = if c.toNat = 2 ^ 32 - 1 then c.toNat else c.toNat + 1) ∧
  ([EventKind.linkUp, .linkDown, .sessionNew, .regionDiverged, .resyncDone, .sweepFault, .syncTimeout, .stallExpired,
    .jnlHigh, .jnlLow, .localFault, .strayWrite, .applyUnmapped, .applyFault, .linkProtocol, .hostReset].map
      EventKind.ix = List.finRange 16) ∧
  ([DevCounter.framesOut, .framesIn, .hdrCrcErr, .bodyCrcErr, .nakSent, .nakReceived, .goBacks, .duplicates,
    .collisions, .missedTurns, .sessionsNew, .sessionsResumed, .unmapped, .applyFaults, .syncTimeouts, .stalls].map
      DevCounter.ix = List.finRange 16) ∧
  (∀ s : State, s.mgp.ekInt = true ↔
    ∃ k : Fin 16, s.mgp.events[k].pending = true ∧ s.mgp.enableMask[k] = true) ∧
  (∀ (t : Transaction) (s : State), s.inReset = false → t.fell = true → t.bytes = [0] →
    let u := s.shiftOut 2 t.tail.length
    exec (.eventQuery t) s = .next { u with mgp := { u.mgp with response := ⟨.ok,
      flags16 (Vector.ofFn fun k : Fin 16 => s.mgp.events[k].pending) ++
        (List.ofFn fun k : Fin 16 => s.mgp.events[k].count) ++ flags16 s.mgp.divergedMask ++
        flags16 s.mgp.enableMask ++ [if s.mgp.ekInt then 1 else 0]⟩ } }) ∧
  (∀ (t : Transaction) (s : State) (a b : Byte), s.inReset = false → t.fell = true → t.bytes = [2, a, b] →
    let u := s.shiftOut 4 t.tail.length
    let named := fun k : Fin 16 => (a.toNat * 256 + b.toNat).testBit k.val
    (∃ v : State, exec (.eventAck t) s = .next v ∧
      (∀ k : Fin 16, v.mgp.events[k] = if named k then ⟨false, 0⟩ else s.mgp.events[k]) ∧
      v.mgp.divergedMask = (if named 3 then Vector.replicate 16 false else s.mgp.divergedMask) ∧
      v.mgp.enableMask = s.mgp.enableMask ∧ v.mgp.counters = s.mgp.counters ∧
      v.mgp.response = ⟨.ok,
        flags16 (Vector.ofFn fun k => named k && s.mgp.events[k].pending) ++
          (List.ofFn fun k => if named k then s.mgp.events[k].count else 0) ++
          flags16 (if named 3 then s.mgp.divergedMask else Vector.replicate 16 false)⟩ ∧
      { v with mgp := u.mgp } = u) ∧
    exec (.eventEnable t) s = .next { u with
      mgp := { u.mgp with response := ⟨.ok, []⟩, enableMask := Vector.ofFn named } })

/-- COUNTER.QUERY answers with the id and the value of the counter it names; COUNTER.ZERO sets that counter to 0, and
all 64 with the id ALL, 0xFF; an id that names no counter is refused with BAD_INDEX; nothing else changes (R180). -/
def Obligations.CountersAreReadAndZeroed : Prop :=
  ∀ (t : Transaction) (s : State) (id : Byte), s.inReset = false → t.fell = true → t.bytes = [1, id] →
    let u := s.shiftOut 3 t.tail.length
    let ok := { u.mgp with response := ⟨.ok, []⟩ }
    let value := fun (c : Counter) => exec (.counterQuery t) s =
      .next { u with mgp := { u.mgp with response := ⟨.ok, id :: beBytes 4 c.toNat⟩ } }
    let zeroed := fun (r : RegionIx) (e : Region) => exec (.counterZero t) s =
      .next { u with rgt := ⟨s.rgt.entries.set r e⟩, mgp := ok }
    (∀ k : Fin 16, id.toNat = k.val → value s.mgp.counters[k] ∧
      exec (.counterZero t) s = .next { u with mgp := { ok with counters := s.mgp.counters.set k 0 } }) ∧
    (∀ r : RegionIx,
      (id.toNat = 0x10 + r.val → value (s.region r).captured ∧ zeroed r { s.region r with captured := 0 }) ∧
      (id.toNat = 0x20 + r.val → value (s.region r).strays ∧ zeroed r { s.region r with strays := 0 }) ∧
      (id.toNat = 0x30 + r.val → value (s.region r).applied ∧ zeroed r { s.region r with applied := 0 })) ∧
    (0x40 ≤ id.toNat →
      exec (.counterQuery t) s = .next { u with mgp := { u.mgp with response := ⟨.badIndex, []⟩ } } ∧
      (id ≠ 0xFF → exec (.counterZero t) s = .next { u with mgp := { u.mgp with response := ⟨.badIndex, []⟩ } })) ∧
    (id = 0xFF → exec (.counterZero t) s = .next { u with
      rgt := ⟨s.rgt.entries.map fun e => { e with captured := 0, strays := 0, applied := 0 }⟩
      mgp := { ok with counters := Vector.replicate 16 0 } })

/-! ### Formats -/

/-- What is written on the line stands where 12.1 puts it, and reads back: the fields of a header, a record and the
training bodies at their offsets, most significant byte first; a body's content, zero fill and CRC-32 in the smallest
length class that holds it; the two CRCs by R181. A header is good and gives its fields, a body of any length class is
good and gives its content, records parse back one after the other whatever follows them, and the training bodies give
their fields. On any bytes, a header is good exactly when 20 bytes are there with their CRC-16, a body when its whole
length is there with its CRC-32; the fields of a header, a HELLO and a START are read at their offsets, undefined codes
by R182; and the records of a DATA frame are read exactly when none of the conditions of R132 holds (R96, R98, R99,
R107, R119, R131, R132, R158, R181, R182). -/
def Obligations.LineFormatsReadBack : Prop :=
  (∀ (bytes : List Byte) (o w : Nat),
    field bytes o w = ((bytes.drop o).take w).foldl (fun n b => n * 256 + b.toNat) 0) ∧
  (∀ bytes : List Byte, headerGood bytes = true ↔
    bytes.length = 20 ∧ field bytes 18 2 = (crc16 (bytes.take 18)).toNat) ∧
  (∀ bytes : List Byte,
    let h := headerOf bytes
    (h.type = match (bytes.getD 0 0).toNat with
      | 1 => some .data
      | 2 => some .ctrl
      | 3 => some .hello
      | 4 => some .start
      | _ => none) ∧
    (h.turn = (bytes.getD 1 0).getLsbD 7 ∧ h.nak = (bytes.getD 1 0).getLsbD 6 ∧
      h.fresh = (bytes.getD 1 0).getLsbD 5 ∧ h.reply = (bytes.getD 1 0).getLsbD 4) ∧
    h.lengthClass = (bytes.getD 2 0).toNat % 8 ∧
    (h.reason = match (bytes.getD 3 0).toNat with
      | 1 => some .crc
      | 2 => some .gap
      | 3 => some .busy
      | 4 => some .format
      | _ => none) ∧
    h.count = field bytes 4 2 ∧ h.firstSeq.toNat = field bytes 6 4 ∧ h.rcvAck.toNat = field bytes 10 4 ∧
    h.aplAck.toNat = field bytes 14 4) ∧
  (∀ (cls : Nat) (bytes : List Byte),
    let n := 128 * 2 ^ cls
    bodyGood cls bytes = true ↔ n ≤ bytes.length ∧ field bytes (n - 4) 4 = (crc32 (bytes.take (n - 4))).toNat) ∧
  (∀ (h : Header) (body : List Byte), frameRecords h body =
    if 6 ≤ h.lengthClass ∨ h.count = 0 ∨ 64 < h.count then none
    else parseRecords h.count (body.take (128 * 2 ^ h.lengthClass - 4))) ∧
  (∀ (n : Nat) (bytes : List Byte), parseRecords 0 bytes = some [] ∧ parseRecords (n + 1) bytes =
    (parseRecord bytes).bind fun first => (parseRecords n first.2).map fun others => first.1 :: others) ∧
  (∀ bytes : List Byte,
    let kind := (bytes.getD 0 0).toNat / 16
    let masked := (bytes.getD 0 0).getLsbD 3
    let len := (bytes.getD 1 0).toNat + 1
    let addr := field bytes 2 5
    let at8 := 8 + (if masked then (len + 7) / 8 else 0)
    let read : WireRecord := ⟨if kind = 1 then .write else .sweep, BitVec.ofNat 40 addr, len,
      if masked then some ((List.range len).map fun i => (bytes.getD (8 + i / 8) 0).getLsbD (7 - i % 8)) else none,
      (bytes.drop at8).take len⟩
    (bytes.length < 8 → parseRecord bytes = none) ∧
    (8 ≤ bytes.length →
      (kind ≠ 1 → kind ≠ 2 → kind ≠ 3 → parseRecord bytes = none) ∧
      (kind = 3 → parseRecord bytes =
        if masked then none else some (⟨.void, BitVec.ofNat 40 addr, 0, none, []⟩, bytes.drop 8)) ∧
      (kind = 1 ∨ kind = 2 → parseRecord bytes =
        if bytes.length < at8 + len ∨ (kind = 2 ∧ (masked = true ∨ len ≠ 256)) ∨ 4096 < addr % 4096 + len then none
        else some (read, bytes.drop (at8 + len))))) ∧
  (∀ (body : List Byte) (b : HelloBody), helloOf body = some b ↔
    (body.getD 0 0).toNat = (match b.role with
      | .primary => 0
      | .secondary => 1) ∧
      b.expected.toNat = field body 1 4 ∧ b.nextSeq.toNat = field body 5 4 ∧ b.oldest.toNat = field body 9 4 ∧
      b.window = field body 13 2 ∧ 1 ≤ b.window ∧ b.window ≤ 1024) ∧
  (∀ (code : Byte) (d : Decision), decisionOf code = some d ↔ code.toNat = (match d with
    | .newSession => 1
    | .resume => 2)) ∧
  (∀ r : Record, r.wire = ⟨r.kind, r.remoteAddr, r.length, r.mask, r.data⟩) ∧
  (∀ k n : Nat, (beBytes k n).length = k ∧
    ∀ i, i < k → (beBytes k n).getD i 0 = BitVec.ofNat 8 (n / 256 ^ (k - 1 - i))) ∧
  (∀ h : Header, (encodeHeader h).take 18 =
    [match h.type with
      | some .data => 0x01
      | some .ctrl => 0x02
      | some .hello => 0x03
      | some .start => 0x04
      | none => 0x00,
    BitVec.ofNat 8 (128 * h.turn.toNat + 64 * h.nak.toNat + 32 * h.fresh.toNat + 16 * h.reply.toNat),
    BitVec.ofNat 8 h.lengthClass,
    match h.reason with
      | none => 0x00
      | some .crc => 0x01
      | some .gap => 0x02
      | some .busy => 0x03
      | some .format => 0x04] ++
    beBytes 2 h.count ++ beBytes 4 h.firstSeq.toNat ++ beBytes 4 h.rcvAck.toNat ++ beBytes 4 h.aplAck.toNat) ∧
  (∀ h : Header, encodeHeader h = (encodeHeader h).take 18 ++ beBytes 2 (crc16 ((encodeHeader h).take 18)).toNat) ∧
  (∀ (cls : Nat) (content : List Byte), content.length + 4 ≤ 128 * 2 ^ cls →
    let covered := content ++ List.replicate (128 * 2 ^ cls - 4 - content.length) 0
    buildBody cls content = covered ++ beBytes 4 (crc32 covered).toNat) ∧
  (∀ n, n ≤ 4096 → lengthClassFor n ≤ 5 ∧ n ≤ 128 * 2 ^ lengthClassFor n ∧
    ∀ c, c < lengthClassFor n → 128 * 2 ^ c < n) ∧
  (∀ w : WireRecord, ∃ mask : List Byte, encodeRecord w =
      [BitVec.ofNat 8 ((match w.kind with
        | .write => 1
        | .sweep => 2
        | .void => 3) * 16 + w.mask.isSome.toNat * 8), BitVec.ofNat 8 (w.length - 1)] ++
        beBytes 5 w.remoteAddr.toNat ++ [0] ++ mask ++ w.data ∧
      (w.mask = none → mask = []) ∧
      (∀ flags, w.mask = some flags → mask.length = (flags.length + 7) / 8 ∧
        ∀ i, i < 8 * mask.length → (mask.getD (i / 8) 0).getLsbD (7 - i % 8) = flags.getD i false)) ∧
  (∀ b : HelloBody, encodeHello b = ([match b.role with
      | .primary => 0x00
      | .secondary => 0x01] : List Byte) ++
    beBytes 4 b.expected.toNat ++ beBytes 4 b.nextSeq.toNat ++ beBytes 4 b.oldest.toNat ++ beBytes 2 b.window) ∧
  (Decision.code .newSession = 0x01 ∧ Decision.code .resume = 0x02) ∧
  (crc16 [] = 0xFFFF ∧ crc32 [] = 0 ∧ ∀ (bs : List Byte) (b : Byte),
    crc16 (bs ++ [b]) = ([7, 6, 5, 4, 3, 2, 1, 0] : List Nat).foldl
      (fun (r : BitVec 16) i => if (r.msb ^^ b.getLsbD i) then (r <<< 1) ^^^ 0x1021 else r <<< 1) (crc16 bs) ∧
    crc32 (bs ++ [b]) = ~~~ ([7, 6, 5, 4, 3, 2, 1, 0] : List Nat).foldl
      (fun (r : BitVec 32) i => if (r.msb ^^ b.getLsbD i) then (r <<< 1) ^^^ 0x04C11DB7 else r <<< 1) (~~~ crc32 bs)) ∧
  (∀ h : Header, h.type ≠ none → h.lengthClass < 8 → h.count < 65536 →
    (encodeHeader h).length = 20 ∧ headerGood (encodeHeader h) = true ∧ headerOf (encodeHeader h) = h) ∧
  (∀ (cls : Nat) (content rest : List Byte), cls ≤ 5 → content.length + 4 ≤ bodyBytes cls →
    (buildBody cls content).length = bodyBytes cls ∧ bodyGood cls (buildBody cls content ++ rest) = true ∧
    (buildBody cls content).take content.length = content) ∧
  (∀ (rs : List Record) (rest : List Byte), (∀ r ∈ rs, r.formed = true ∧ r.state ≠ .filling) →
    parseRecords rs.length ((rs.flatMap fun r => encodeRecord r.wire) ++ rest) = some (rs.map Record.wire) ∧
    ((rs.flatMap fun r => encodeRecord r.wire)).length = (rs.map encodedSize).sum) ∧
  (∀ b : HelloBody, 1 ≤ b.window → b.window ≤ 1024 → helloOf (buildBody 0 (encodeHello b)) = some b) ∧
  (∀ d : Decision, decisionOf ((buildBody 0 [d.code]).getD 0 0) = some d)

/-- What the management port carries stands as 12.2 lays it out and reads back: the ten fields of REGION.SET, the ten
parameters of LINK.SET, a set of 16 flags, a response, the codes of every enumeration and request, and the command of a
transaction's bytes, at every value in range. The ranges of the fields are those of R1 with the bounds of R4, and those
of the parameters are R153's (R1, R2, R4, R153, R167 to R169, 12.2). -/
def Obligations.PortFormatsReadBack : Prop :=
  (∀ f : RegionFields, f.inRange = true ↔
    (f.basePage ≤ 2 ^ 28 - 1 ∧ 1 ≤ f.size ∧ f.size ≤ 2 ^ 28 ∧ f.basePage + f.size ≤ 2 ^ 28) ∧
      (1 ≤ f.timeout ∧ f.timeout ≤ 65535) ∧
      0 ≤ (f.basePage : Int) + f.displacement ∧ (f.basePage : Int) + f.size + f.displacement - 1 ≤ 2 ^ 28 - 1) ∧
  (∀ q : LinkParams, q.inRange = true ↔
    (16 ≤ q.guard ∧ q.guard ≤ 1023) ∧ (1 ≤ q.dwell ∧ q.dwell ≤ 1000) ∧
      (10 ≤ q.silence ∧ q.silence ≤ 10000 ∧ 2 * q.dwell ≤ q.silence) ∧
      (10 ≤ q.ackTimeout ∧ q.ackTimeout ≤ 65535) ∧ (1 ≤ q.burst ∧ q.burst ≤ 16) ∧
      (1 ≤ q.window ∧ q.window ≤ 1024) ∧ (50 ≤ q.helloInterval ∧ q.helloInterval ≤ 10000) ∧
      (1 ≤ q.trainingLimit ∧ q.trainingLimit ≤ 1000) ∧ q.retrainDelay ≤ 1000) ∧
  (∀ f : RegionFields, encodeFields f = beBytes 4 f.basePage ++ beBytes 4 f.size ++ [f.direction.code, f.mode.code] ++
    beBytes 4 (BitVec.ofInt 32 f.displacement).toNat ++ [f.fullPolicy.code] ++ beBytes 2 f.timeout ++
    [f.action.code, f.stray.code, if f.autoResync then 1 else 0]) ∧
  (∀ q : LinkParams, encodeParams q = [q.role.code] ++ beBytes 2 q.guard ++ beBytes 2 q.dwell ++ beBytes 2 q.silence ++
    beBytes 2 q.ackTimeout ++ beBytes 1 q.burst ++ beBytes 2 q.window ++ beBytes 2 q.helloInterval ++
    beBytes 2 q.trainingLimit ++ beBytes 2 q.retrainDelay) ∧
  (∀ (v : Vector Bool 16) (k : Fin 16), ((flags16 v).getD (1 - k.val / 8) 0).getLsbD (k.val % 8) = v[k]) ∧
  (∀ r : Response, r.bytes = r.status.code :: BitVec.ofNat 8 r.payload.length :: r.payload) ∧
  ([Status.ok, .badCode, .badLength, .badIndex, .badValue, .badState, .overlap, .noneYet].map Status.code =
      [0, 1, 2, 3, 4, 5, 6, 0xFF] ∧
    [Direction.source, .target].map Direction.code = [0, 1] ∧ [Mode.async, .sync].map Mode.code = [0, 1] ∧
    [FullPolicy.stall, .drop].map FullPolicy.code = [0, 1] ∧
    [TimeoutAction.fail, .degrade].map TimeoutAction.code = [0, 1] ∧
    [StrayPolicy.pass, .reject].map StrayPolicy.code = [0, 1] ∧ [Role.primary, .secondary].map Role.code = [0, 1] ∧
    [RegionState.disabled, .active, .diverged, .resyncing].map RegionState.code = [0, 1, 2, 3] ∧
    [none, some DownCause.retryLimit, some .missedTurns, some .collisions, some .trainTimeout, some .roleConflict,
      some .renew, some .peerRetrain, some .disabled].map causeCode = [0, 1, 2, 3, 4, 5, 6, 7, 8] ∧
    [Phase.calling, .starting, .waiting, .replying, .replied].map Phase.code = [1, 2, 3, 4, 5] ∧
    [SubState.hold, .listen, .guard].map SubState.code = [1, 2, 3] ∧
    [none, some NakReason.crc, some .gap, some .busy, some .format].map nakCode = [0, 1, 2, 3, 4] ∧
    Link.disabled.code = 0 ∧ (∀ t, (Link.training t).code = 1) ∧ (∀ u, (Link.up u).code = 2) ∧
    ∀ d, (Link.down d).code = 3) ∧
  (∀ (request : Transaction → Instr) (code : Byte),
    (request, code) ∈ ([(.nop, 0x00), (.portIdent, 0x01), (.regionSet, 0x10), (.regionEnable, 0x11),
      (.regionDisable, 0x12), (.regionResync, 0x13), (.regionMode, 0x14), (.regionQuery, 0x15), (.linkSet, 0x20),
      (.linkEnable, 0x21), (.linkDisable, 0x22), (.linkRenew, 0x23), (.linkQuery, 0x24), (.journalSet, 0x30),
      (.journalQuery, 0x31), (.eventQuery, 0x40), (.eventAck, 0x41), (.eventEnable, 0x42), (.counterQuery, 0x50),
      (.counterZero, 0x51)] : List ((Transaction → Instr) × Byte)) →
    code ∈ requestCodes ∧ requestCodes.length = 20 ∧
      ∀ t : Transaction, encodeTransaction (request t) = some (code :: t.bytes)) ∧
  (∀ (f : RegionFields) (b : Byte), f.inRange = true → fieldsOf (b :: encodeFields f) = some f ∧
    (encodeFields f).length = 20) ∧
  (∀ q : LinkParams, q.inRange = true → paramsOf (encodeParams q) = some q ∧ (encodeParams q).length = 18) ∧
  (∀ v : Vector Bool 16, flagsOf (flags16 v) = v ∧ (flags16 v).length = 2) ∧
  (∀ (fell : Bool) (tail : List Bool) (bytes : List Byte),
    encodeTransaction (decodeTransaction fell tail bytes) = some bytes) ∧
  (∀ (c : Instr) (bytes : List Byte), c.wellFormed = true → encodeTransaction c = some bytes →
    ∃ fell tail, decodeTransaction fell tail bytes = c)

/-- A DATA frame that one node builds is accepted whole by a node that expects its first record and has room: the
receiver reads a good header from it, appends the very records the sender selected, moves E past them and raises no
NAK and no event (R99, R101, R103, R127, R130 to R135). -/
def Obligations.FrameBuiltIsAcceptedWhole : Prop :=
  ∀ (s : State) (u : Turn), s.inReset = false → s.lnc.link = .up u → u.sub = .hold → s.ftx.frame = none →
    u.frames < s.lnc.params.burst → u.turnSent = false → s.sendable = true →
    (∀ r ∈ s.selection, r.sendCount < 8) → s.recordsFormed = true →
    ∃ (t : State) (f : TxFrame), exec .frameOpportunity s = .next t ∧ t.ftx.frame = some f ∧
      f.bytes.take 2 = [0xD3, 0x5C] ∧ headerGood ((f.bytes.drop 2).take 20) = true ∧
      ∀ (r : State) (v : Turn), r.inReset = false → r.lnc.link = .up v → r.lnc.lineBusy = true →
        r.frx.rx = some (.header (headerOf ((f.bytes.drop 2).take 20))) →
        r.frx.expected = s.jnl.sendPoint →
        r.apl.queue.length + s.selection.length ≤ 512 →
        (r.apl.queue.map fun q => ceil16 q.length).sum + (s.selection.map fun q => ceil16 q.length).sum ≤ 65536 →
        ∃ w : State, exec (.frameEnd (f.bytes.drop 22)) r = .next w.settle ∧
          w.frx.expected = s.jnl.sendPoint + BitVec.ofNat 32 s.selection.length ∧ 0 < s.selection.length ∧
          w.apl = { r.apl with
            queue := r.apl.queue ++ applyRecords s.jnl.sendPoint (s.selection.map Record.wire) } ∧
          w.ftx.pendingNak = none ∧ w.mgp = r.mgp

/-! ### What every step keeps -/

/-- Every step keeps the laws of the journal: consecutive seqs up to next seq, the two limits, SENT records the oldest
part and within the window, none SENT in DISABLED, send counts at most 8 (laws 1, 2, 3, 11; R39, R41, R55, R102). -/
def Obligations.EveryStepKeepsTheJournalLaws : Prop :=
  ∀ s t : State, step s = .next t →
    (s.jnl.ordered = true → t.jnl.ordered = true) ∧
    (s.jnl.withinLimits = true → t.jnl.withinLimits = true) ∧
    (s.sentLaw = true → t.sentLaw = true) ∧
    (s.jnl.sendCountsWithin = true → t.jnl.sendCountsWithin = true)

/-- Every step keeps the region table and the settings sound: fields in range, TARGET entries DISABLED or ACTIVE, no two
live entries sharing a page, link parameters, marks and reserve in their ranges (R1, R5, R6, R37, R153). Every step
keeps the apply engine's law: the queue holds the records from A to E - 1 in seq order within its limits; the issue
point lies between A and E, the records before it IN_FLIGHT or DONE and the others WAITING; the in-flight list has one
entry for each APL entry outstanding, those not orphaned being the IN_FLIGHT records (law 5; R141, R142). -/
def Obligations.EveryStepKeepsTheTableSettingsAndApplyQueue : Prop :=
  ∀ s t : State, step s = .next t →
    (s.rgt.sound = true → t.rgt.sound = true) ∧
    (s.settingsInRange = true → t.settingsInRange = true) ∧
    (s.dnp.outstandingLaw = true → s.applyLaw = true → t.applyLaw = true)

/-- Every step keeps the sweep's law, queued and swept indices being distinct and exactly the SOURCE regions in
RESYNCING, and with it the form of every journal record and of the sweep context (law 7; R38, R45, R50, R51, R77,
R80). -/
def Obligations.EveryStepKeepsTheSweepAndItsRecords : Prop :=
  ∀ s t : State, step s = .next t →
    (s.sweepLaw = true → t.sweepLaw = true) ∧
    (s.rgt.inRange = true → s.recordsFormed = true → t.recordsFormed = true)

/-- Every step keeps the laws of the memory path: internal tags unique and each requester within its limit; every tag in
flight in exactly one of intake, port, hold table and ready responses, so that each accepted request gets exactly one
response; holds without a local status being those whose write is outstanding, and no hold left whose response is fixed
(laws 8, 9; R19, R24, R32, R62, R64). -/
def Obligations.EveryStepKeepsTheMemoryPathLaws : Prop :=
  ∀ s t : State, step s = .next t →
    (s.hld.waitingLaw = true → t.hld.waitingLaw = true) ∧
    (s.dnp.outstandingLaw = true →
      t.dnp.outstandingLaw = true ∧ (s.tagLaw = true → t.tagLaw = true) ∧ (s.stallLaw = true → t.stallLaw = true))

/-- Every step keeps the laws of the line: the part drives it only in TRAINING or in HOLD and never beside a detected
peer frame; the turn timers run only in their sub-states and the counts stay in their bounds (law 12; R105, R109, R114,
R117). -/
def Obligations.EveryStepKeepsTheLineLaws : Prop :=
  ∀ s t : State, step s = .next t → s.settingsInRange = true → s.lineLaw = true →
    t.lineLaw = true ∧ (s.turnLaw = true → t.turnLaw = true)
end

