-- ==== Sys2Proof/Laws/State.lean ====
section
/-! SUPPORT. What each shared operation leaves unchanged, one lemma per operation and field, so that no proof unfolds
a record update. -/

namespace Sys2Proof.Machine

/-! `State.raise` -/
@[simp] theorem State.raise_upi (k : EventKind) (s : State) : (State.raise k s).upi = s.upi := rfl
@[simp] theorem State.raise_rgt (k : EventKind) (s : State) : (State.raise k s).rgt = s.rgt := rfl
@[simp] theorem State.raise_dnp (k : EventKind) (s : State) : (State.raise k s).dnp = s.dnp := rfl
@[simp] theorem State.raise_jnl (k : EventKind) (s : State) : (State.raise k s).jnl = s.jnl := rfl
@[simp] theorem State.raise_hld (k : EventKind) (s : State) : (State.raise k s).hld = s.hld := rfl
@[simp] theorem State.raise_swp (k : EventKind) (s : State) : (State.raise k s).swp = s.swp := rfl
@[simp] theorem State.raise_ftx (k : EventKind) (s : State) : (State.raise k s).ftx = s.ftx := rfl
@[simp] theorem State.raise_lnc (k : EventKind) (s : State) : (State.raise k s).lnc = s.lnc := rfl
@[simp] theorem State.raise_frx (k : EventKind) (s : State) : (State.raise k s).frx = s.frx := rfl
@[simp] theorem State.raise_apl (k : EventKind) (s : State) : (State.raise k s).apl = s.apl := rfl
@[simp] theorem State.raise_now (k : EventKind) (s : State) : (State.raise k s).now = s.now := rfl
@[simp] theorem State.raise_inReset (k : EventKind) (s : State) : (State.raise k s).inReset = s.inReset := rfl
@[simp] theorem State.raise_pending (k : EventKind) (s : State) : (State.raise k s).pending = s.pending := rfl

/-! `State.count` -/
@[simp] theorem State.count_upi (c : DevCounter) (s : State) : (State.count c s).upi = s.upi := rfl
@[simp] theorem State.count_rgt (c : DevCounter) (s : State) : (State.count c s).rgt = s.rgt := rfl
@[simp] theorem State.count_dnp (c : DevCounter) (s : State) : (State.count c s).dnp = s.dnp := rfl
@[simp] theorem State.count_jnl (c : DevCounter) (s : State) : (State.count c s).jnl = s.jnl := rfl
@[simp] theorem State.count_hld (c : DevCounter) (s : State) : (State.count c s).hld = s.hld := rfl
@[simp] theorem State.count_swp (c : DevCounter) (s : State) : (State.count c s).swp = s.swp := rfl
@[simp] theorem State.count_ftx (c : DevCounter) (s : State) : (State.count c s).ftx = s.ftx := rfl
@[simp] theorem State.count_lnc (c : DevCounter) (s : State) : (State.count c s).lnc = s.lnc := rfl
@[simp] theorem State.count_frx (c : DevCounter) (s : State) : (State.count c s).frx = s.frx := rfl
@[simp] theorem State.count_apl (c : DevCounter) (s : State) : (State.count c s).apl = s.apl := rfl
@[simp] theorem State.count_now (c : DevCounter) (s : State) : (State.count c s).now = s.now := rfl
@[simp] theorem State.count_inReset (c : DevCounter) (s : State) : (State.count c s).inReset = s.inReset := rfl
@[simp] theorem State.count_pending (c : DevCounter) (s : State) : (State.count c s).pending = s.pending := rfl

/-! `State.setRegion` -/
@[simp] theorem State.setRegion_upi (r : RegionIx) (e : Region) (s : State) :
    (State.setRegion r e s).upi = s.upi := rfl
@[simp] theorem State.setRegion_dnp (r : RegionIx) (e : Region) (s : State) :
    (State.setRegion r e s).dnp = s.dnp := rfl
@[simp] theorem State.setRegion_jnl (r : RegionIx) (e : Region) (s : State) :
    (State.setRegion r e s).jnl = s.jnl := rfl
@[simp] theorem State.setRegion_hld (r : RegionIx) (e : Region) (s : State) :
    (State.setRegion r e s).hld = s.hld := rfl
@[simp] theorem State.setRegion_swp (r : RegionIx) (e : Region) (s : State) :
    (State.setRegion r e s).swp = s.swp := rfl
@[simp] theorem State.setRegion_ftx (r : RegionIx) (e : Region) (s : State) :
    (State.setRegion r e s).ftx = s.ftx := rfl
@[simp] theorem State.setRegion_lnc (r : RegionIx) (e : Region) (s : State) :
    (State.setRegion r e s).lnc = s.lnc := rfl
@[simp] theorem State.setRegion_frx (r : RegionIx) (e : Region) (s : State) :
    (State.setRegion r e s).frx = s.frx := rfl
@[simp] theorem State.setRegion_apl (r : RegionIx) (e : Region) (s : State) :
    (State.setRegion r e s).apl = s.apl := rfl
@[simp] theorem State.setRegion_mgp (r : RegionIx) (e : Region) (s : State) :
    (State.setRegion r e s).mgp = s.mgp := rfl
@[simp] theorem State.setRegion_now (r : RegionIx) (e : Region) (s : State) :
    (State.setRegion r e s).now = s.now := rfl
@[simp] theorem State.setRegion_inReset (r : RegionIx) (e : Region) (s : State) :
    (State.setRegion r e s).inReset = s.inReset := rfl
@[simp] theorem State.setRegion_pending (r : RegionIx) (e : Region) (s : State) :
    (State.setRegion r e s).pending = s.pending := rfl

/-! `State.setRegionState` -/
@[simp] theorem State.setRegionState_upi (r : RegionIx) (st : RegionState) (s : State) :
    (State.setRegionState r st s).upi = s.upi := rfl
@[simp] theorem State.setRegionState_dnp (r : RegionIx) (st : RegionState) (s : State) :
    (State.setRegionState r st s).dnp = s.dnp := rfl
@[simp] theorem State.setRegionState_jnl (r : RegionIx) (st : RegionState) (s : State) :
    (State.setRegionState r st s).jnl = s.jnl := rfl
@[simp] theorem State.setRegionState_hld (r : RegionIx) (st : RegionState) (s : State) :
    (State.setRegionState r st s).hld = s.hld := rfl
@[simp] theorem State.setRegionState_swp (r : RegionIx) (st : RegionState) (s : State) :
    (State.setRegionState r st s).swp = s.swp := rfl
@[simp] theorem State.setRegionState_ftx (r : RegionIx) (st : RegionState) (s : State) :
    (State.setRegionState r st s).ftx = s.ftx := rfl
@[simp] theorem State.setRegionState_lnc (r : RegionIx) (st : RegionState) (s : State) :
    (State.setRegionState r st s).lnc = s.lnc := rfl
@[simp] theorem State.setRegionState_frx (r : RegionIx) (st : RegionState) (s : State) :
    (State.setRegionState r st s).frx = s.frx := rfl
@[simp] theorem State.setRegionState_apl (r : RegionIx) (st : RegionState) (s : State) :
    (State.setRegionState r st s).apl = s.apl := rfl
@[simp] theorem State.setRegionState_mgp (r : RegionIx) (st : RegionState) (s : State) :
    (State.setRegionState r st s).mgp = s.mgp := rfl
@[simp] theorem State.setRegionState_now (r : RegionIx) (st : RegionState) (s : State) :
    (State.setRegionState r st s).now = s.now := rfl
@[simp] theorem State.setRegionState_inReset (r : RegionIx) (st : RegionState) (s : State) :
    (State.setRegionState r st s).inReset = s.inReset := rfl
@[simp] theorem State.setRegionState_pending (r : RegionIx) (st : RegionState) (s : State) :
    (State.setRegionState r st s).pending = s.pending := rfl

/-! `State.setMode` -/
@[simp] theorem State.setMode_upi (r : RegionIx) (m : Mode) (s : State) : (State.setMode r m s).upi = s.upi := rfl
@[simp] theorem State.setMode_dnp (r : RegionIx) (m : Mode) (s : State) : (State.setMode r m s).dnp = s.dnp := rfl
@[simp] theorem State.setMode_jnl (r : RegionIx) (m : Mode) (s : State) : (State.setMode r m s).jnl = s.jnl := rfl
@[simp] theorem State.setMode_hld (r : RegionIx) (m : Mode) (s : State) : (State.setMode r m s).hld = s.hld := rfl
@[simp] theorem State.setMode_swp (r : RegionIx) (m : Mode) (s : State) : (State.setMode r m s).swp = s.swp := rfl
@[simp] theorem State.setMode_ftx (r : RegionIx) (m : Mode) (s : State) : (State.setMode r m s).ftx = s.ftx := rfl
@[simp] theorem State.setMode_lnc (r : RegionIx) (m : Mode) (s : State) : (State.setMode r m s).lnc = s.lnc := rfl
@[simp] theorem State.setMode_frx (r : RegionIx) (m : Mode) (s : State) : (State.setMode r m s).frx = s.frx := rfl
@[simp] theorem State.setMode_apl (r : RegionIx) (m : Mode) (s : State) : (State.setMode r m s).apl = s.apl := rfl
@[simp] theorem State.setMode_mgp (r : RegionIx) (m : Mode) (s : State) : (State.setMode r m s).mgp = s.mgp := rfl
@[simp] theorem State.setMode_now (r : RegionIx) (m : Mode) (s : State) : (State.setMode r m s).now = s.now := rfl
@[simp] theorem State.setMode_inReset (r : RegionIx) (m : Mode) (s : State) :
    (State.setMode r m s).inReset = s.inReset := rfl
@[simp] theorem State.setMode_pending (r : RegionIx) (m : Mode) (s : State) :
    (State.setMode r m s).pending = s.pending := rfl

/-! `State.countCaptured` -/
@[simp] theorem State.countCaptured_upi (r : RegionIx) (s : State) : (State.countCaptured r s).upi = s.upi := rfl
@[simp] theorem State.countCaptured_dnp (r : RegionIx) (s : State) : (State.countCaptured r s).dnp = s.dnp := rfl
@[simp] theorem State.countCaptured_jnl (r : RegionIx) (s : State) : (State.countCaptured r s).jnl = s.jnl := rfl
@[simp] theorem State.countCaptured_hld (r : RegionIx) (s : State) : (State.countCaptured r s).hld = s.hld := rfl
@[simp] theorem State.countCaptured_swp (r : RegionIx) (s : State) : (State.countCaptured r s).swp = s.swp := rfl
@[simp] theorem State.countCaptured_ftx (r : RegionIx) (s : State) : (State.countCaptured r s).ftx = s.ftx := rfl
@[simp] theorem State.countCaptured_lnc (r : RegionIx) (s : State) : (State.countCaptured r s).lnc = s.lnc := rfl
@[simp] theorem State.countCaptured_frx (r : RegionIx) (s : State) : (State.countCaptured r s).frx = s.frx := rfl
@[simp] theorem State.countCaptured_apl (r : RegionIx) (s : State) : (State.countCaptured r s).apl = s.apl := rfl
@[simp] theorem State.countCaptured_mgp (r : RegionIx) (s : State) : (State.countCaptured r s).mgp = s.mgp := rfl
@[simp] theorem State.countCaptured_now (r : RegionIx) (s : State) : (State.countCaptured r s).now = s.now := rfl
@[simp] theorem State.countCaptured_inReset (r : RegionIx) (s : State) :
    (State.countCaptured r s).inReset = s.inReset := rfl
@[simp] theorem State.countCaptured_pending (r : RegionIx) (s : State) :
    (State.countCaptured r s).pending = s.pending := rfl

/-! `State.countStray` -/
@[simp] theorem State.countStray_upi (r : RegionIx) (s : State) : (State.countStray r s).upi = s.upi := rfl
@[simp] theorem State.countStray_dnp (r : RegionIx) (s : State) : (State.countStray r s).dnp = s.dnp := rfl
@[simp] theorem State.countStray_jnl (r : RegionIx) (s : State) : (State.countStray r s).jnl = s.jnl := rfl
@[simp] theorem State.countStray_hld (r : RegionIx) (s : State) : (State.countStray r s).hld = s.hld := rfl
@[simp] theorem State.countStray_swp (r : RegionIx) (s : State) : (State.countStray r s).swp = s.swp := rfl
@[simp] theorem State.countStray_ftx (r : RegionIx) (s : State) : (State.countStray r s).ftx = s.ftx := rfl
@[simp] theorem State.countStray_lnc (r : RegionIx) (s : State) : (State.countStray r s).lnc = s.lnc := rfl
@[simp] theorem State.countStray_frx (r : RegionIx) (s : State) : (State.countStray r s).frx = s.frx := rfl
@[simp] theorem State.countStray_apl (r : RegionIx) (s : State) : (State.countStray r s).apl = s.apl := rfl
@[simp] theorem State.countStray_mgp (r : RegionIx) (s : State) : (State.countStray r s).mgp = s.mgp := rfl
@[simp] theorem State.countStray_now (r : RegionIx) (s : State) : (State.countStray r s).now = s.now := rfl
@[simp] theorem State.countStray_inReset (r : RegionIx) (s : State) :
    (State.countStray r s).inReset = s.inReset := rfl
@[simp] theorem State.countStray_pending (r : RegionIx) (s : State) :
    (State.countStray r s).pending = s.pending := rfl

/-! `State.countApplied` -/
@[simp] theorem State.countApplied_upi (r : RegionIx) (s : State) : (State.countApplied r s).upi = s.upi := rfl
@[simp] theorem State.countApplied_dnp (r : RegionIx) (s : State) : (State.countApplied r s).dnp = s.dnp := rfl
@[simp] theorem State.countApplied_jnl (r : RegionIx) (s : State) : (State.countApplied r s).jnl = s.jnl := rfl
@[simp] theorem State.countApplied_hld (r : RegionIx) (s : State) : (State.countApplied r s).hld = s.hld := rfl
@[simp] theorem State.countApplied_swp (r : RegionIx) (s : State) : (State.countApplied r s).swp = s.swp := rfl
@[simp] theorem State.countApplied_ftx (r : RegionIx) (s : State) : (State.countApplied r s).ftx = s.ftx := rfl
@[simp] theorem State.countApplied_lnc (r : RegionIx) (s : State) : (State.countApplied r s).lnc = s.lnc := rfl
@[simp] theorem State.countApplied_frx (r : RegionIx) (s : State) : (State.countApplied r s).frx = s.frx := rfl
@[simp] theorem State.countApplied_apl (r : RegionIx) (s : State) : (State.countApplied r s).apl = s.apl := rfl
@[simp] theorem State.countApplied_mgp (r : RegionIx) (s : State) : (State.countApplied r s).mgp = s.mgp := rfl
@[simp] theorem State.countApplied_now (r : RegionIx) (s : State) : (State.countApplied r s).now = s.now := rfl
@[simp] theorem State.countApplied_inReset (r : RegionIx) (s : State) :
    (State.countApplied r s).inReset = s.inReset := rfl
@[simp] theorem State.countApplied_pending (r : RegionIx) (s : State) :
    (State.countApplied r s).pending = s.pending := rfl

/-! `State.dropSweep` -/
@[simp] theorem State.dropSweep_upi (r : RegionIx) (s : State) : (State.dropSweep r s).upi = s.upi := rfl
@[simp] theorem State.dropSweep_rgt (r : RegionIx) (s : State) : (State.dropSweep r s).rgt = s.rgt := rfl
@[simp] theorem State.dropSweep_dnp (r : RegionIx) (s : State) : (State.dropSweep r s).dnp = s.dnp := rfl
@[simp] theorem State.dropSweep_jnl (r : RegionIx) (s : State) : (State.dropSweep r s).jnl = s.jnl := rfl
@[simp] theorem State.dropSweep_hld (r : RegionIx) (s : State) : (State.dropSweep r s).hld = s.hld := rfl
@[simp] theorem State.dropSweep_ftx (r : RegionIx) (s : State) : (State.dropSweep r s).ftx = s.ftx := rfl
@[simp] theorem State.dropSweep_lnc (r : RegionIx) (s : State) : (State.dropSweep r s).lnc = s.lnc := rfl
@[simp] theorem State.dropSweep_frx (r : RegionIx) (s : State) : (State.dropSweep r s).frx = s.frx := rfl
@[simp] theorem State.dropSweep_apl (r : RegionIx) (s : State) : (State.dropSweep r s).apl = s.apl := rfl
@[simp] theorem State.dropSweep_mgp (r : RegionIx) (s : State) : (State.dropSweep r s).mgp = s.mgp := rfl
@[simp] theorem State.dropSweep_now (r : RegionIx) (s : State) : (State.dropSweep r s).now = s.now := rfl
@[simp] theorem State.dropSweep_inReset (r : RegionIx) (s : State) :
    (State.dropSweep r s).inReset = s.inReset := rfl
@[simp] theorem State.dropSweep_pending (r : RegionIx) (s : State) :
    (State.dropSweep r s).pending = s.pending := rfl

/-! `State.toResyncing` -/
@[simp] theorem State.toResyncing_upi (r : RegionIx) (s : State) : (State.toResyncing r s).upi = s.upi := rfl
@[simp] theorem State.toResyncing_dnp (r : RegionIx) (s : State) : (State.toResyncing r s).dnp = s.dnp := rfl
@[simp] theorem State.toResyncing_jnl (r : RegionIx) (s : State) : (State.toResyncing r s).jnl = s.jnl := rfl
@[simp] theorem State.toResyncing_hld (r : RegionIx) (s : State) : (State.toResyncing r s).hld = s.hld := rfl
@[simp] theorem State.toResyncing_ftx (r : RegionIx) (s : State) : (State.toResyncing r s).ftx = s.ftx := rfl
@[simp] theorem State.toResyncing_lnc (r : RegionIx) (s : State) : (State.toResyncing r s).lnc = s.lnc := rfl
@[simp] theorem State.toResyncing_frx (r : RegionIx) (s : State) : (State.toResyncing r s).frx = s.frx := rfl
@[simp] theorem State.toResyncing_apl (r : RegionIx) (s : State) : (State.toResyncing r s).apl = s.apl := rfl
@[simp] theorem State.toResyncing_mgp (r : RegionIx) (s : State) : (State.toResyncing r s).mgp = s.mgp := rfl
@[simp] theorem State.toResyncing_now (r : RegionIx) (s : State) : (State.toResyncing r s).now = s.now := rfl
@[simp] theorem State.toResyncing_inReset (r : RegionIx) (s : State) :
    (State.toResyncing r s).inReset = s.inReset := rfl
@[simp] theorem State.toResyncing_pending (r : RegionIx) (s : State) :
    (State.toResyncing r s).pending = s.pending := rfl

/-! `State.diverge` -/
@[simp] theorem State.diverge_upi (r : RegionIx) (s : State) :
    (State.diverge r s).upi = s.upi := by unfold State.diverge; split <;> rfl
@[simp] theorem State.diverge_dnp (r : RegionIx) (s : State) :
    (State.diverge r s).dnp = s.dnp := by unfold State.diverge; split <;> rfl
@[simp] theorem State.diverge_jnl (r : RegionIx) (s : State) :
    (State.diverge r s).jnl = s.jnl := by unfold State.diverge; split <;> rfl
@[simp] theorem State.diverge_hld (r : RegionIx) (s : State) :
    (State.diverge r s).hld = s.hld := by unfold State.diverge; split <;> rfl
@[simp] theorem State.diverge_ftx (r : RegionIx) (s : State) :
    (State.diverge r s).ftx = s.ftx := by unfold State.diverge; split <;> rfl
@[simp] theorem State.diverge_lnc (r : RegionIx) (s : State) :
    (State.diverge r s).lnc = s.lnc := by unfold State.diverge; split <;> rfl
@[simp] theorem State.diverge_frx (r : RegionIx) (s : State) :
    (State.diverge r s).frx = s.frx := by unfold State.diverge; split <;> rfl
@[simp] theorem State.diverge_apl (r : RegionIx) (s : State) :
    (State.diverge r s).apl = s.apl := by unfold State.diverge; split <;> rfl
@[simp] theorem State.diverge_now (r : RegionIx) (s : State) :
    (State.diverge r s).now = s.now := by unfold State.diverge; split <;> rfl
@[simp] theorem State.diverge_inReset (r : RegionIx) (s : State) :
    (State.diverge r s).inReset = s.inReset := by unfold State.diverge; split <;> rfl
@[simp] theorem State.diverge_pending (r : RegionIx) (s : State) :
    (State.diverge r s).pending = s.pending := by unfold State.diverge; split <;> rfl

/-! `State.setLink` -/
@[simp] theorem State.setLink_upi (l : Link) (s : State) : (State.setLink l s).upi = s.upi := rfl
@[simp] theorem State.setLink_rgt (l : Link) (s : State) : (State.setLink l s).rgt = s.rgt := rfl
@[simp] theorem State.setLink_dnp (l : Link) (s : State) : (State.setLink l s).dnp = s.dnp := rfl
@[simp] theorem State.setLink_jnl (l : Link) (s : State) : (State.setLink l s).jnl = s.jnl := rfl
@[simp] theorem State.setLink_hld (l : Link) (s : State) : (State.setLink l s).hld = s.hld := rfl
@[simp] theorem State.setLink_swp (l : Link) (s : State) : (State.setLink l s).swp = s.swp := rfl
@[simp] theorem State.setLink_ftx (l : Link) (s : State) : (State.setLink l s).ftx = s.ftx := rfl
@[simp] theorem State.setLink_frx (l : Link) (s : State) : (State.setLink l s).frx = s.frx := rfl
@[simp] theorem State.setLink_apl (l : Link) (s : State) : (State.setLink l s).apl = s.apl := rfl
@[simp] theorem State.setLink_mgp (l : Link) (s : State) : (State.setLink l s).mgp = s.mgp := rfl
@[simp] theorem State.setLink_now (l : Link) (s : State) : (State.setLink l s).now = s.now := rfl
@[simp] theorem State.setLink_inReset (l : Link) (s : State) : (State.setLink l s).inReset = s.inReset := rfl
@[simp] theorem State.setLink_pending (l : Link) (s : State) : (State.setLink l s).pending = s.pending := rfl

/-! `State.evalMarks` -/
@[simp] theorem State.evalMarks_upi (s : State) :
    (State.evalMarks s).upi = s.upi := by unfold State.evalMarks; (repeat' split) <;> rfl
@[simp] theorem State.evalMarks_rgt (s : State) :
    (State.evalMarks s).rgt = s.rgt := by unfold State.evalMarks; (repeat' split) <;> rfl
@[simp] theorem State.evalMarks_dnp (s : State) :
    (State.evalMarks s).dnp = s.dnp := by unfold State.evalMarks; (repeat' split) <;> rfl
@[simp] theorem State.evalMarks_hld (s : State) :
    (State.evalMarks s).hld = s.hld := by unfold State.evalMarks; (repeat' split) <;> rfl
@[simp] theorem State.evalMarks_swp (s : State) :
    (State.evalMarks s).swp = s.swp := by unfold State.evalMarks; (repeat' split) <;> rfl
@[simp] theorem State.evalMarks_ftx (s : State) :
    (State.evalMarks s).ftx = s.ftx := by unfold State.evalMarks; (repeat' split) <;> rfl
@[simp] theorem State.evalMarks_lnc (s : State) :
    (State.evalMarks s).lnc = s.lnc := by unfold State.evalMarks; (repeat' split) <;> rfl
@[simp] theorem State.evalMarks_frx (s : State) :
    (State.evalMarks s).frx = s.frx := by unfold State.evalMarks; (repeat' split) <;> rfl
@[simp] theorem State.evalMarks_apl (s : State) :
    (State.evalMarks s).apl = s.apl := by unfold State.evalMarks; (repeat' split) <;> rfl
@[simp] theorem State.evalMarks_now (s : State) :
    (State.evalMarks s).now = s.now := by unfold State.evalMarks; (repeat' split) <;> rfl
@[simp] theorem State.evalMarks_inReset (s : State) :
    (State.evalMarks s).inReset = s.inReset := by unfold State.evalMarks; (repeat' split) <;> rfl
@[simp] theorem State.evalMarks_pending (s : State) :
    (State.evalMarks s).pending = s.pending := by unfold State.evalMarks; (repeat' split) <;> rfl

/-! `State.setRecords` -/
@[simp] theorem State.setRecords_upi (rs : List Record) (s : State) :
    (State.setRecords rs s).upi = s.upi := by unfold State.setRecords; dsimp only; split <;> simp
@[simp] theorem State.setRecords_rgt (rs : List Record) (s : State) :
    (State.setRecords rs s).rgt = s.rgt := by unfold State.setRecords; dsimp only; split <;> simp
@[simp] theorem State.setRecords_dnp (rs : List Record) (s : State) :
    (State.setRecords rs s).dnp = s.dnp := by unfold State.setRecords; dsimp only; split <;> simp
@[simp] theorem State.setRecords_hld (rs : List Record) (s : State) :
    (State.setRecords rs s).hld = s.hld := by unfold State.setRecords; dsimp only; split <;> simp
@[simp] theorem State.setRecords_swp (rs : List Record) (s : State) :
    (State.setRecords rs s).swp = s.swp := by unfold State.setRecords; dsimp only; split <;> simp
@[simp] theorem State.setRecords_ftx (rs : List Record) (s : State) :
    (State.setRecords rs s).ftx = s.ftx := by unfold State.setRecords; dsimp only; split <;> simp
@[simp] theorem State.setRecords_lnc (rs : List Record) (s : State) :
    (State.setRecords rs s).lnc = s.lnc := by unfold State.setRecords; dsimp only; split <;> simp
@[simp] theorem State.setRecords_frx (rs : List Record) (s : State) :
    (State.setRecords rs s).frx = s.frx := by unfold State.setRecords; dsimp only; split <;> simp
@[simp] theorem State.setRecords_apl (rs : List Record) (s : State) :
    (State.setRecords rs s).apl = s.apl := by unfold State.setRecords; dsimp only; split <;> simp
@[simp] theorem State.setRecords_now (rs : List Record) (s : State) :
    (State.setRecords rs s).now = s.now := by unfold State.setRecords; dsimp only; split <;> simp
@[simp] theorem State.setRecords_inReset (rs : List Record) (s : State) :
    (State.setRecords rs s).inReset = s.inReset := by unfold State.setRecords; dsimp only; split <;> simp
@[simp] theorem State.setRecords_pending (rs : List Record) (s : State) :
    (State.setRecords rs s).pending = s.pending := by unfold State.setRecords; dsimp only; split <;> simp

/-! `State.appendRecord` -/
@[simp] theorem State.appendRecord_upi (rec : Record) (s : State) :
    (State.appendRecord rec s).upi = s.upi := by simp [State.appendRecord]
@[simp] theorem State.appendRecord_rgt (rec : Record) (s : State) :
    (State.appendRecord rec s).rgt = s.rgt := by simp [State.appendRecord]
@[simp] theorem State.appendRecord_dnp (rec : Record) (s : State) :
    (State.appendRecord rec s).dnp = s.dnp := by simp [State.appendRecord]
@[simp] theorem State.appendRecord_hld (rec : Record) (s : State) :
    (State.appendRecord rec s).hld = s.hld := by simp [State.appendRecord]
@[simp] theorem State.appendRecord_swp (rec : Record) (s : State) :
    (State.appendRecord rec s).swp = s.swp := by simp [State.appendRecord]
@[simp] theorem State.appendRecord_ftx (rec : Record) (s : State) :
    (State.appendRecord rec s).ftx = s.ftx := by simp [State.appendRecord]
@[simp] theorem State.appendRecord_lnc (rec : Record) (s : State) :
    (State.appendRecord rec s).lnc = s.lnc := by simp [State.appendRecord]
@[simp] theorem State.appendRecord_frx (rec : Record) (s : State) :
    (State.appendRecord rec s).frx = s.frx := by simp [State.appendRecord]
@[simp] theorem State.appendRecord_apl (rec : Record) (s : State) :
    (State.appendRecord rec s).apl = s.apl := by simp [State.appendRecord]
@[simp] theorem State.appendRecord_now (rec : Record) (s : State) :
    (State.appendRecord rec s).now = s.now := by simp [State.appendRecord]
@[simp] theorem State.appendRecord_inReset (rec : Record) (s : State) :
    (State.appendRecord rec s).inReset = s.inReset := by simp [State.appendRecord]
@[simp] theorem State.appendRecord_pending (rec : Record) (s : State) :
    (State.appendRecord rec s).pending = s.pending := by simp [State.appendRecord]

/-! `State.capture` -/
@[simp] theorem State.capture_upi (r : RegionIx) (a b : Addr) (bs : List (Byte × Bool)) (s : State) :
    (State.capture r a b bs s).upi = s.upi := by unfold State.capture; split <;> simp
@[simp] theorem State.capture_rgt (r : RegionIx) (a b : Addr) (bs : List (Byte × Bool)) (s : State) :
    (State.capture r a b bs s).rgt = s.rgt := by unfold State.capture; split <;> simp
@[simp] theorem State.capture_dnp (r : RegionIx) (a b : Addr) (bs : List (Byte × Bool)) (s : State) :
    (State.capture r a b bs s).dnp = s.dnp := by unfold State.capture; split <;> simp
@[simp] theorem State.capture_hld (r : RegionIx) (a b : Addr) (bs : List (Byte × Bool)) (s : State) :
    (State.capture r a b bs s).hld = s.hld := by unfold State.capture; split <;> simp
@[simp] theorem State.capture_swp (r : RegionIx) (a b : Addr) (bs : List (Byte × Bool)) (s : State) :
    (State.capture r a b bs s).swp = s.swp := by unfold State.capture; split <;> simp
@[simp] theorem State.capture_ftx (r : RegionIx) (a b : Addr) (bs : List (Byte × Bool)) (s : State) :
    (State.capture r a b bs s).ftx = s.ftx := by unfold State.capture; split <;> simp
@[simp] theorem State.capture_lnc (r : RegionIx) (a b : Addr) (bs : List (Byte × Bool)) (s : State) :
    (State.capture r a b bs s).lnc = s.lnc := by unfold State.capture; split <;> simp
@[simp] theorem State.capture_frx (r : RegionIx) (a b : Addr) (bs : List (Byte × Bool)) (s : State) :
    (State.capture r a b bs s).frx = s.frx := by unfold State.capture; split <;> simp
@[simp] theorem State.capture_apl (r : RegionIx) (a b : Addr) (bs : List (Byte × Bool)) (s : State) :
    (State.capture r a b bs s).apl = s.apl := by unfold State.capture; split <;> simp
@[simp] theorem State.capture_now (r : RegionIx) (a b : Addr) (bs : List (Byte × Bool)) (s : State) :
    (State.capture r a b bs s).now = s.now := by unfold State.capture; split <;> simp
@[simp] theorem State.capture_inReset (r : RegionIx) (a b : Addr) (bs : List (Byte × Bool)) (s : State) :
    (State.capture r a b bs s).inReset = s.inReset := by unfold State.capture; split <;> simp
@[simp] theorem State.capture_pending (r : RegionIx) (a b : Addr) (bs : List (Byte × Bool)) (s : State) :
    (State.capture r a b bs s).pending = s.pending := by unfold State.capture; split <;> simp

/-! `State.goBack` -/
@[simp] theorem State.goBack_upi (q : Seq) (s : State) : (State.goBack q s).upi = s.upi := by simp [State.goBack]
@[simp] theorem State.goBack_rgt (q : Seq) (s : State) : (State.goBack q s).rgt = s.rgt := by simp [State.goBack]
@[simp] theorem State.goBack_dnp (q : Seq) (s : State) : (State.goBack q s).dnp = s.dnp := by simp [State.goBack]
@[simp] theorem State.goBack_hld (q : Seq) (s : State) : (State.goBack q s).hld = s.hld := by simp [State.goBack]
@[simp] theorem State.goBack_swp (q : Seq) (s : State) : (State.goBack q s).swp = s.swp := by simp [State.goBack]
@[simp] theorem State.goBack_ftx (q : Seq) (s : State) : (State.goBack q s).ftx = s.ftx := by simp [State.goBack]
@[simp] theorem State.goBack_lnc (q : Seq) (s : State) : (State.goBack q s).lnc = s.lnc := by simp [State.goBack]
@[simp] theorem State.goBack_frx (q : Seq) (s : State) : (State.goBack q s).frx = s.frx := by simp [State.goBack]
@[simp] theorem State.goBack_apl (q : Seq) (s : State) : (State.goBack q s).apl = s.apl := by simp [State.goBack]
@[simp] theorem State.goBack_now (q : Seq) (s : State) : (State.goBack q s).now = s.now := by simp [State.goBack]
@[simp] theorem State.goBack_inReset (q : Seq) (s : State) :
    (State.goBack q s).inReset = s.inReset := by simp [State.goBack]
@[simp] theorem State.goBack_pending (q : Seq) (s : State) :
    (State.goBack q s).pending = s.pending := by simp [State.goBack]

/-! `State.takeRcvAck` -/
@[simp] theorem State.takeRcvAck_upi (q : Seq) (s : State) :
    (State.takeRcvAck q s).upi = s.upi := by unfold State.takeRcvAck; split <;> simp
@[simp] theorem State.takeRcvAck_rgt (q : Seq) (s : State) :
    (State.takeRcvAck q s).rgt = s.rgt := by unfold State.takeRcvAck; split <;> simp
@[simp] theorem State.takeRcvAck_dnp (q : Seq) (s : State) :
    (State.takeRcvAck q s).dnp = s.dnp := by unfold State.takeRcvAck; split <;> simp
@[simp] theorem State.takeRcvAck_hld (q : Seq) (s : State) :
    (State.takeRcvAck q s).hld = s.hld := by unfold State.takeRcvAck; split <;> simp
@[simp] theorem State.takeRcvAck_swp (q : Seq) (s : State) :
    (State.takeRcvAck q s).swp = s.swp := by unfold State.takeRcvAck; split <;> simp
@[simp] theorem State.takeRcvAck_ftx (q : Seq) (s : State) :
    (State.takeRcvAck q s).ftx = s.ftx := by unfold State.takeRcvAck; split <;> simp
@[simp] theorem State.takeRcvAck_lnc (q : Seq) (s : State) :
    (State.takeRcvAck q s).lnc = s.lnc := by unfold State.takeRcvAck; split <;> simp
@[simp] theorem State.takeRcvAck_frx (q : Seq) (s : State) :
    (State.takeRcvAck q s).frx = s.frx := by unfold State.takeRcvAck; split <;> simp
@[simp] theorem State.takeRcvAck_apl (q : Seq) (s : State) :
    (State.takeRcvAck q s).apl = s.apl := by unfold State.takeRcvAck; split <;> simp
@[simp] theorem State.takeRcvAck_now (q : Seq) (s : State) :
    (State.takeRcvAck q s).now = s.now := by unfold State.takeRcvAck; split <;> simp
@[simp] theorem State.takeRcvAck_inReset (q : Seq) (s : State) :
    (State.takeRcvAck q s).inReset = s.inReset := by unfold State.takeRcvAck; split <;> simp
@[simp] theorem State.takeRcvAck_pending (q : Seq) (s : State) :
    (State.takeRcvAck q s).pending = s.pending := by unfold State.takeRcvAck; split <;> simp

/-! `State.takeNak` -/
@[simp] theorem State.takeNak_upi (q : Seq) (s : State) :
    (State.takeNak q s).upi = s.upi := by unfold State.takeNak; split <;> simp
@[simp] theorem State.takeNak_rgt (q : Seq) (s : State) :
    (State.takeNak q s).rgt = s.rgt := by unfold State.takeNak; split <;> simp
@[simp] theorem State.takeNak_dnp (q : Seq) (s : State) :
    (State.takeNak q s).dnp = s.dnp := by unfold State.takeNak; split <;> simp
@[simp] theorem State.takeNak_hld (q : Seq) (s : State) :
    (State.takeNak q s).hld = s.hld := by unfold State.takeNak; split <;> simp
@[simp] theorem State.takeNak_swp (q : Seq) (s : State) :
    (State.takeNak q s).swp = s.swp := by unfold State.takeNak; split <;> simp
@[simp] theorem State.takeNak_ftx (q : Seq) (s : State) :
    (State.takeNak q s).ftx = s.ftx := by unfold State.takeNak; split <;> simp
@[simp] theorem State.takeNak_lnc (q : Seq) (s : State) :
    (State.takeNak q s).lnc = s.lnc := by unfold State.takeNak; split <;> simp
@[simp] theorem State.takeNak_frx (q : Seq) (s : State) :
    (State.takeNak q s).frx = s.frx := by unfold State.takeNak; split <;> simp
@[simp] theorem State.takeNak_apl (q : Seq) (s : State) :
    (State.takeNak q s).apl = s.apl := by unfold State.takeNak; split <;> simp
@[simp] theorem State.takeNak_now (q : Seq) (s : State) :
    (State.takeNak q s).now = s.now := by unfold State.takeNak; split <;> simp
@[simp] theorem State.takeNak_inReset (q : Seq) (s : State) :
    (State.takeNak q s).inReset = s.inReset := by unfold State.takeNak; split <;> simp
@[simp] theorem State.takeNak_pending (q : Seq) (s : State) :
    (State.takeNak q s).pending = s.pending := by unfold State.takeNak; split <;> simp

/-! `State.revertSent` -/
@[simp] theorem State.revertSent_upi (s : State) : (State.revertSent s).upi = s.upi := by simp [State.revertSent]
@[simp] theorem State.revertSent_rgt (s : State) : (State.revertSent s).rgt = s.rgt := by simp [State.revertSent]
@[simp] theorem State.revertSent_dnp (s : State) : (State.revertSent s).dnp = s.dnp := by simp [State.revertSent]
@[simp] theorem State.revertSent_hld (s : State) : (State.revertSent s).hld = s.hld := by simp [State.revertSent]
@[simp] theorem State.revertSent_swp (s : State) : (State.revertSent s).swp = s.swp := by simp [State.revertSent]
@[simp] theorem State.revertSent_ftx (s : State) : (State.revertSent s).ftx = s.ftx := by simp [State.revertSent]
@[simp] theorem State.revertSent_lnc (s : State) : (State.revertSent s).lnc = s.lnc := by simp [State.revertSent]
@[simp] theorem State.revertSent_frx (s : State) : (State.revertSent s).frx = s.frx := by simp [State.revertSent]
@[simp] theorem State.revertSent_apl (s : State) : (State.revertSent s).apl = s.apl := by simp [State.revertSent]
@[simp] theorem State.revertSent_now (s : State) : (State.revertSent s).now = s.now := by simp [State.revertSent]
@[simp] theorem State.revertSent_inReset (s : State) :
    (State.revertSent s).inReset = s.inReset := by simp [State.revertSent]
@[simp] theorem State.revertSent_pending (s : State) :
    (State.revertSent s).pending = s.pending := by simp [State.revertSent]

/-! `State.journalNew` -/
@[simp] theorem State.journalNew_upi (s : State) : (State.journalNew s).upi = s.upi := rfl
@[simp] theorem State.journalNew_rgt (s : State) : (State.journalNew s).rgt = s.rgt := rfl
@[simp] theorem State.journalNew_dnp (s : State) : (State.journalNew s).dnp = s.dnp := rfl
@[simp] theorem State.journalNew_hld (s : State) : (State.journalNew s).hld = s.hld := rfl
@[simp] theorem State.journalNew_swp (s : State) : (State.journalNew s).swp = s.swp := rfl
@[simp] theorem State.journalNew_ftx (s : State) : (State.journalNew s).ftx = s.ftx := rfl
@[simp] theorem State.journalNew_lnc (s : State) : (State.journalNew s).lnc = s.lnc := rfl
@[simp] theorem State.journalNew_frx (s : State) : (State.journalNew s).frx = s.frx := rfl
@[simp] theorem State.journalNew_apl (s : State) : (State.journalNew s).apl = s.apl := rfl
@[simp] theorem State.journalNew_mgp (s : State) : (State.journalNew s).mgp = s.mgp := rfl
@[simp] theorem State.journalNew_now (s : State) : (State.journalNew s).now = s.now := rfl
@[simp] theorem State.journalNew_inReset (s : State) : (State.journalNew s).inReset = s.inReset := rfl
@[simp] theorem State.journalNew_pending (s : State) : (State.journalNew s).pending = s.pending := rfl

/-! `State.journalResume` -/
@[simp] theorem State.journalResume_upi (e : Seq) (s : State) :
    (State.journalResume e s).upi = s.upi := by simp [State.journalResume]
@[simp] theorem State.journalResume_rgt (e : Seq) (s : State) :
    (State.journalResume e s).rgt = s.rgt := by simp [State.journalResume]
@[simp] theorem State.journalResume_dnp (e : Seq) (s : State) :
    (State.journalResume e s).dnp = s.dnp := by simp [State.journalResume]
@[simp] theorem State.journalResume_hld (e : Seq) (s : State) :
    (State.journalResume e s).hld = s.hld := by simp [State.journalResume]
@[simp] theorem State.journalResume_swp (e : Seq) (s : State) :
    (State.journalResume e s).swp = s.swp := by simp [State.journalResume]
@[simp] theorem State.journalResume_ftx (e : Seq) (s : State) :
    (State.journalResume e s).ftx = s.ftx := by simp [State.journalResume]
@[simp] theorem State.journalResume_lnc (e : Seq) (s : State) :
    (State.journalResume e s).lnc = s.lnc := by simp [State.journalResume]
@[simp] theorem State.journalResume_frx (e : Seq) (s : State) :
    (State.journalResume e s).frx = s.frx := by simp [State.journalResume]
@[simp] theorem State.journalResume_apl (e : Seq) (s : State) :
    (State.journalResume e s).apl = s.apl := by simp [State.journalResume]
@[simp] theorem State.journalResume_now (e : Seq) (s : State) :
    (State.journalResume e s).now = s.now := by simp [State.journalResume]
@[simp] theorem State.journalResume_inReset (e : Seq) (s : State) :
    (State.journalResume e s).inReset = s.inReset := by simp [State.journalResume]
@[simp] theorem State.journalResume_pending (e : Seq) (s : State) :
    (State.journalResume e s).pending = s.pending := by simp [State.journalResume]

/-! `State.fillRecord` -/
@[simp] theorem State.fillRecord_upi (q : Seq) (d : List Byte) (s : State) :
    (State.fillRecord q d s).upi = s.upi := by simp [State.fillRecord]
@[simp] theorem State.fillRecord_rgt (q : Seq) (d : List Byte) (s : State) :
    (State.fillRecord q d s).rgt = s.rgt := by simp [State.fillRecord]
@[simp] theorem State.fillRecord_dnp (q : Seq) (d : List Byte) (s : State) :
    (State.fillRecord q d s).dnp = s.dnp := by simp [State.fillRecord]
@[simp] theorem State.fillRecord_hld (q : Seq) (d : List Byte) (s : State) :
    (State.fillRecord q d s).hld = s.hld := by simp [State.fillRecord]
@[simp] theorem State.fillRecord_swp (q : Seq) (d : List Byte) (s : State) :
    (State.fillRecord q d s).swp = s.swp := by simp [State.fillRecord]
@[simp] theorem State.fillRecord_ftx (q : Seq) (d : List Byte) (s : State) :
    (State.fillRecord q d s).ftx = s.ftx := by simp [State.fillRecord]
@[simp] theorem State.fillRecord_lnc (q : Seq) (d : List Byte) (s : State) :
    (State.fillRecord q d s).lnc = s.lnc := by simp [State.fillRecord]
@[simp] theorem State.fillRecord_frx (q : Seq) (d : List Byte) (s : State) :
    (State.fillRecord q d s).frx = s.frx := by simp [State.fillRecord]
@[simp] theorem State.fillRecord_apl (q : Seq) (d : List Byte) (s : State) :
    (State.fillRecord q d s).apl = s.apl := by simp [State.fillRecord]
@[simp] theorem State.fillRecord_now (q : Seq) (d : List Byte) (s : State) :
    (State.fillRecord q d s).now = s.now := by simp [State.fillRecord]
@[simp] theorem State.fillRecord_inReset (q : Seq) (d : List Byte) (s : State) :
    (State.fillRecord q d s).inReset = s.inReset := by simp [State.fillRecord]
@[simp] theorem State.fillRecord_pending (q : Seq) (d : List Byte) (s : State) :
    (State.fillRecord q d s).pending = s.pending := by simp [State.fillRecord]

/-! `State.voidRecord` -/
@[simp] theorem State.voidRecord_upi (q : Seq) (s : State) :
    (State.voidRecord q s).upi = s.upi := by simp [State.voidRecord]
@[simp] theorem State.voidRecord_rgt (q : Seq) (s : State) :
    (State.voidRecord q s).rgt = s.rgt := by simp [State.voidRecord]
@[simp] theorem State.voidRecord_dnp (q : Seq) (s : State) :
    (State.voidRecord q s).dnp = s.dnp := by simp [State.voidRecord]
@[simp] theorem State.voidRecord_hld (q : Seq) (s : State) :
    (State.voidRecord q s).hld = s.hld := by simp [State.voidRecord]
@[simp] theorem State.voidRecord_swp (q : Seq) (s : State) :
    (State.voidRecord q s).swp = s.swp := by simp [State.voidRecord]
@[simp] theorem State.voidRecord_ftx (q : Seq) (s : State) :
    (State.voidRecord q s).ftx = s.ftx := by simp [State.voidRecord]
@[simp] theorem State.voidRecord_lnc (q : Seq) (s : State) :
    (State.voidRecord q s).lnc = s.lnc := by simp [State.voidRecord]
@[simp] theorem State.voidRecord_frx (q : Seq) (s : State) :
    (State.voidRecord q s).frx = s.frx := by simp [State.voidRecord]
@[simp] theorem State.voidRecord_apl (q : Seq) (s : State) :
    (State.voidRecord q s).apl = s.apl := by simp [State.voidRecord]
@[simp] theorem State.voidRecord_now (q : Seq) (s : State) :
    (State.voidRecord q s).now = s.now := by simp [State.voidRecord]
@[simp] theorem State.voidRecord_inReset (q : Seq) (s : State) :
    (State.voidRecord q s).inReset = s.inReset := by simp [State.voidRecord]
@[simp] theorem State.voidRecord_pending (q : Seq) (s : State) :
    (State.voidRecord q s).pending = s.pending := by simp [State.voidRecord]

/-! `State.mapHolds` -/
@[simp] theorem State.mapHolds_upi (f : Hold → Hold) (s : State) : (State.mapHolds f s).upi = s.upi := rfl
@[simp] theorem State.mapHolds_rgt (f : Hold → Hold) (s : State) : (State.mapHolds f s).rgt = s.rgt := rfl
@[simp] theorem State.mapHolds_dnp (f : Hold → Hold) (s : State) : (State.mapHolds f s).dnp = s.dnp := rfl
@[simp] theorem State.mapHolds_jnl (f : Hold → Hold) (s : State) : (State.mapHolds f s).jnl = s.jnl := rfl
@[simp] theorem State.mapHolds_swp (f : Hold → Hold) (s : State) : (State.mapHolds f s).swp = s.swp := rfl
@[simp] theorem State.mapHolds_ftx (f : Hold → Hold) (s : State) : (State.mapHolds f s).ftx = s.ftx := rfl
@[simp] theorem State.mapHolds_lnc (f : Hold → Hold) (s : State) : (State.mapHolds f s).lnc = s.lnc := rfl
@[simp] theorem State.mapHolds_frx (f : Hold → Hold) (s : State) : (State.mapHolds f s).frx = s.frx := rfl
@[simp] theorem State.mapHolds_apl (f : Hold → Hold) (s : State) : (State.mapHolds f s).apl = s.apl := rfl
@[simp] theorem State.mapHolds_mgp (f : Hold → Hold) (s : State) : (State.mapHolds f s).mgp = s.mgp := rfl
@[simp] theorem State.mapHolds_now (f : Hold → Hold) (s : State) : (State.mapHolds f s).now = s.now := rfl
@[simp] theorem State.mapHolds_inReset (f : Hold → Hold) (s : State) :
    (State.mapHolds f s).inReset = s.inReset := rfl
@[simp] theorem State.mapHolds_pending (f : Hold → Hold) (s : State) :
    (State.mapHolds f s).pending = s.pending := rfl

/-! `State.formResponses` -/
@[simp] theorem State.formResponses_rgt (s : State) : (State.formResponses s).rgt = s.rgt := rfl
@[simp] theorem State.formResponses_dnp (s : State) : (State.formResponses s).dnp = s.dnp := rfl
@[simp] theorem State.formResponses_jnl (s : State) : (State.formResponses s).jnl = s.jnl := rfl
@[simp] theorem State.formResponses_swp (s : State) : (State.formResponses s).swp = s.swp := rfl
@[simp] theorem State.formResponses_ftx (s : State) : (State.formResponses s).ftx = s.ftx := rfl
@[simp] theorem State.formResponses_lnc (s : State) : (State.formResponses s).lnc = s.lnc := rfl
@[simp] theorem State.formResponses_frx (s : State) : (State.formResponses s).frx = s.frx := rfl
@[simp] theorem State.formResponses_apl (s : State) : (State.formResponses s).apl = s.apl := rfl
@[simp] theorem State.formResponses_mgp (s : State) : (State.formResponses s).mgp = s.mgp := rfl
@[simp] theorem State.formResponses_now (s : State) : (State.formResponses s).now = s.now := rfl
@[simp] theorem State.formResponses_inReset (s : State) : (State.formResponses s).inReset = s.inReset := rfl
@[simp] theorem State.formResponses_pending (s : State) : (State.formResponses s).pending = s.pending := rfl

/-! `State.addHold` -/
@[simp] theorem State.addHold_upi (h : Hold) (s : State) : (State.addHold h s).upi = s.upi := rfl
@[simp] theorem State.addHold_rgt (h : Hold) (s : State) : (State.addHold h s).rgt = s.rgt := rfl
@[simp] theorem State.addHold_dnp (h : Hold) (s : State) : (State.addHold h s).dnp = s.dnp := rfl
@[simp] theorem State.addHold_jnl (h : Hold) (s : State) : (State.addHold h s).jnl = s.jnl := rfl
@[simp] theorem State.addHold_swp (h : Hold) (s : State) : (State.addHold h s).swp = s.swp := rfl
@[simp] theorem State.addHold_ftx (h : Hold) (s : State) : (State.addHold h s).ftx = s.ftx := rfl
@[simp] theorem State.addHold_lnc (h : Hold) (s : State) : (State.addHold h s).lnc = s.lnc := rfl
@[simp] theorem State.addHold_frx (h : Hold) (s : State) : (State.addHold h s).frx = s.frx := rfl
@[simp] theorem State.addHold_apl (h : Hold) (s : State) : (State.addHold h s).apl = s.apl := rfl
@[simp] theorem State.addHold_mgp (h : Hold) (s : State) : (State.addHold h s).mgp = s.mgp := rfl
@[simp] theorem State.addHold_now (h : Hold) (s : State) : (State.addHold h s).now = s.now := rfl
@[simp] theorem State.addHold_inReset (h : Hold) (s : State) : (State.addHold h s).inReset = s.inReset := rfl
@[simp] theorem State.addHold_pending (h : Hold) (s : State) : (State.addHold h s).pending = s.pending := rfl

/-! `State.holdLocalStatus` -/
@[simp] theorem State.holdLocalStatus_rgt (g : Tag) (st : BusStatus) (s : State) :
    (State.holdLocalStatus g st s).rgt = s.rgt := rfl
@[simp] theorem State.holdLocalStatus_dnp (g : Tag) (st : BusStatus) (s : State) :
    (State.holdLocalStatus g st s).dnp = s.dnp := rfl
@[simp] theorem State.holdLocalStatus_jnl (g : Tag) (st : BusStatus) (s : State) :
    (State.holdLocalStatus g st s).jnl = s.jnl := rfl
@[simp] theorem State.holdLocalStatus_swp (g : Tag) (st : BusStatus) (s : State) :
    (State.holdLocalStatus g st s).swp = s.swp := rfl
@[simp] theorem State.holdLocalStatus_ftx (g : Tag) (st : BusStatus) (s : State) :
    (State.holdLocalStatus g st s).ftx = s.ftx := rfl
@[simp] theorem State.holdLocalStatus_lnc (g : Tag) (st : BusStatus) (s : State) :
    (State.holdLocalStatus g st s).lnc = s.lnc := rfl
@[simp] theorem State.holdLocalStatus_frx (g : Tag) (st : BusStatus) (s : State) :
    (State.holdLocalStatus g st s).frx = s.frx := rfl
@[simp] theorem State.holdLocalStatus_apl (g : Tag) (st : BusStatus) (s : State) :
    (State.holdLocalStatus g st s).apl = s.apl := rfl
@[simp] theorem State.holdLocalStatus_mgp (g : Tag) (st : BusStatus) (s : State) :
    (State.holdLocalStatus g st s).mgp = s.mgp := rfl
@[simp] theorem State.holdLocalStatus_now (g : Tag) (st : BusStatus) (s : State) :
    (State.holdLocalStatus g st s).now = s.now := rfl
@[simp] theorem State.holdLocalStatus_inReset (g : Tag) (st : BusStatus) (s : State) :
    (State.holdLocalStatus g st s).inReset = s.inReset := rfl
@[simp] theorem State.holdLocalStatus_pending (g : Tag) (st : BusStatus) (s : State) :
    (State.holdLocalStatus g st s).pending = s.pending := rfl

/-! `State.holdsAplAck` -/
@[simp] theorem State.holdsAplAck_rgt (p : Seq) (s : State) : (State.holdsAplAck p s).rgt = s.rgt := rfl
@[simp] theorem State.holdsAplAck_dnp (p : Seq) (s : State) : (State.holdsAplAck p s).dnp = s.dnp := rfl
@[simp] theorem State.holdsAplAck_jnl (p : Seq) (s : State) : (State.holdsAplAck p s).jnl = s.jnl := rfl
@[simp] theorem State.holdsAplAck_swp (p : Seq) (s : State) : (State.holdsAplAck p s).swp = s.swp := rfl
@[simp] theorem State.holdsAplAck_ftx (p : Seq) (s : State) : (State.holdsAplAck p s).ftx = s.ftx := rfl
@[simp] theorem State.holdsAplAck_lnc (p : Seq) (s : State) : (State.holdsAplAck p s).lnc = s.lnc := rfl
@[simp] theorem State.holdsAplAck_frx (p : Seq) (s : State) : (State.holdsAplAck p s).frx = s.frx := rfl
@[simp] theorem State.holdsAplAck_apl (p : Seq) (s : State) : (State.holdsAplAck p s).apl = s.apl := rfl
@[simp] theorem State.holdsAplAck_mgp (p : Seq) (s : State) : (State.holdsAplAck p s).mgp = s.mgp := rfl
@[simp] theorem State.holdsAplAck_now (p : Seq) (s : State) : (State.holdsAplAck p s).now = s.now := rfl
@[simp] theorem State.holdsAplAck_inReset (p : Seq) (s : State) :
    (State.holdsAplAck p s).inReset = s.inReset := rfl
@[simp] theorem State.holdsAplAck_pending (p : Seq) (s : State) :
    (State.holdsAplAck p s).pending = s.pending := rfl

/-! `State.holdFail` -/
@[simp] theorem State.holdFail_rgt (g : Tag) (s : State) : (State.holdFail g s).rgt = s.rgt := rfl
@[simp] theorem State.holdFail_dnp (g : Tag) (s : State) : (State.holdFail g s).dnp = s.dnp := rfl
@[simp] theorem State.holdFail_jnl (g : Tag) (s : State) : (State.holdFail g s).jnl = s.jnl := rfl
@[simp] theorem State.holdFail_swp (g : Tag) (s : State) : (State.holdFail g s).swp = s.swp := rfl
@[simp] theorem State.holdFail_ftx (g : Tag) (s : State) : (State.holdFail g s).ftx = s.ftx := rfl
@[simp] theorem State.holdFail_lnc (g : Tag) (s : State) : (State.holdFail g s).lnc = s.lnc := rfl
@[simp] theorem State.holdFail_frx (g : Tag) (s : State) : (State.holdFail g s).frx = s.frx := rfl
@[simp] theorem State.holdFail_apl (g : Tag) (s : State) : (State.holdFail g s).apl = s.apl := rfl
@[simp] theorem State.holdFail_mgp (g : Tag) (s : State) : (State.holdFail g s).mgp = s.mgp := rfl
@[simp] theorem State.holdFail_now (g : Tag) (s : State) : (State.holdFail g s).now = s.now := rfl
@[simp] theorem State.holdFail_inReset (g : Tag) (s : State) : (State.holdFail g s).inReset = s.inReset := rfl
@[simp] theorem State.holdFail_pending (g : Tag) (s : State) : (State.holdFail g s).pending = s.pending := rfl

/-! `State.holdDegrade` -/
@[simp] theorem State.holdDegrade_dnp (r : RegionIx) (s : State) : (State.holdDegrade r s).dnp = s.dnp := rfl
@[simp] theorem State.holdDegrade_jnl (r : RegionIx) (s : State) : (State.holdDegrade r s).jnl = s.jnl := rfl
@[simp] theorem State.holdDegrade_swp (r : RegionIx) (s : State) : (State.holdDegrade r s).swp = s.swp := rfl
@[simp] theorem State.holdDegrade_ftx (r : RegionIx) (s : State) : (State.holdDegrade r s).ftx = s.ftx := rfl
@[simp] theorem State.holdDegrade_lnc (r : RegionIx) (s : State) : (State.holdDegrade r s).lnc = s.lnc := rfl
@[simp] theorem State.holdDegrade_frx (r : RegionIx) (s : State) : (State.holdDegrade r s).frx = s.frx := rfl
@[simp] theorem State.holdDegrade_apl (r : RegionIx) (s : State) : (State.holdDegrade r s).apl = s.apl := rfl
@[simp] theorem State.holdDegrade_mgp (r : RegionIx) (s : State) : (State.holdDegrade r s).mgp = s.mgp := rfl
@[simp] theorem State.holdDegrade_now (r : RegionIx) (s : State) : (State.holdDegrade r s).now = s.now := rfl
@[simp] theorem State.holdDegrade_inReset (r : RegionIx) (s : State) :
    (State.holdDegrade r s).inReset = s.inReset := rfl
@[simp] theorem State.holdDegrade_pending (r : RegionIx) (s : State) :
    (State.holdDegrade r s).pending = s.pending := rfl

/-! `State.expireHold` -/
@[simp] theorem State.expireHold_dnp (g : Tag) (s : State) :
    (State.expireHold g s).dnp = s.dnp := by unfold State.expireHold; (repeat' split) <;> rfl
@[simp] theorem State.expireHold_jnl (g : Tag) (s : State) :
    (State.expireHold g s).jnl = s.jnl := by unfold State.expireHold; (repeat' split) <;> rfl
@[simp] theorem State.expireHold_swp (g : Tag) (s : State) :
    (State.expireHold g s).swp = s.swp := by unfold State.expireHold; (repeat' split) <;> rfl
@[simp] theorem State.expireHold_ftx (g : Tag) (s : State) :
    (State.expireHold g s).ftx = s.ftx := by unfold State.expireHold; (repeat' split) <;> rfl
@[simp] theorem State.expireHold_lnc (g : Tag) (s : State) :
    (State.expireHold g s).lnc = s.lnc := by unfold State.expireHold; (repeat' split) <;> rfl
@[simp] theorem State.expireHold_frx (g : Tag) (s : State) :
    (State.expireHold g s).frx = s.frx := by unfold State.expireHold; (repeat' split) <;> rfl
@[simp] theorem State.expireHold_apl (g : Tag) (s : State) :
    (State.expireHold g s).apl = s.apl := by unfold State.expireHold; (repeat' split) <;> rfl
@[simp] theorem State.expireHold_now (g : Tag) (s : State) :
    (State.expireHold g s).now = s.now := by unfold State.expireHold; (repeat' split) <;> rfl
@[simp] theorem State.expireHold_inReset (g : Tag) (s : State) :
    (State.expireHold g s).inReset = s.inReset := by unfold State.expireHold; (repeat' split) <;> rfl
@[simp] theorem State.expireHold_pending (g : Tag) (s : State) :
    (State.expireHold g s).pending = s.pending := by unfold State.expireHold; (repeat' split) <;> rfl

/-! `State.sweepTake` -/
@[simp] theorem State.sweepTake_upi (s : State) :
    (State.sweepTake s).upi = s.upi := by unfold State.sweepTake; (repeat' split) <;> rfl
@[simp] theorem State.sweepTake_rgt (s : State) :
    (State.sweepTake s).rgt = s.rgt := by unfold State.sweepTake; (repeat' split) <;> rfl
@[simp] theorem State.sweepTake_dnp (s : State) :
    (State.sweepTake s).dnp = s.dnp := by unfold State.sweepTake; (repeat' split) <;> rfl
@[simp] theorem State.sweepTake_jnl (s : State) :
    (State.sweepTake s).jnl = s.jnl := by unfold State.sweepTake; (repeat' split) <;> rfl
@[simp] theorem State.sweepTake_hld (s : State) :
    (State.sweepTake s).hld = s.hld := by unfold State.sweepTake; (repeat' split) <;> rfl
@[simp] theorem State.sweepTake_ftx (s : State) :
    (State.sweepTake s).ftx = s.ftx := by unfold State.sweepTake; (repeat' split) <;> rfl
@[simp] theorem State.sweepTake_lnc (s : State) :
    (State.sweepTake s).lnc = s.lnc := by unfold State.sweepTake; (repeat' split) <;> rfl
@[simp] theorem State.sweepTake_frx (s : State) :
    (State.sweepTake s).frx = s.frx := by unfold State.sweepTake; (repeat' split) <;> rfl
@[simp] theorem State.sweepTake_apl (s : State) :
    (State.sweepTake s).apl = s.apl := by unfold State.sweepTake; (repeat' split) <;> rfl
@[simp] theorem State.sweepTake_mgp (s : State) :
    (State.sweepTake s).mgp = s.mgp := by unfold State.sweepTake; (repeat' split) <;> rfl
@[simp] theorem State.sweepTake_now (s : State) :
    (State.sweepTake s).now = s.now := by unfold State.sweepTake; (repeat' split) <;> rfl
@[simp] theorem State.sweepTake_inReset (s : State) :
    (State.sweepTake s).inReset = s.inReset := by unfold State.sweepTake; (repeat' split) <;> rfl
@[simp] theorem State.sweepTake_pending (s : State) :
    (State.sweepTake s).pending = s.pending := by unfold State.sweepTake; (repeat' split) <;> rfl

/-! `State.sweepAplAck` -/
@[simp] theorem State.sweepAplAck_upi (p : Seq) (s : State) :
    (State.sweepAplAck p s).upi = s.upi := by unfold State.sweepAplAck; (repeat' split) <;> rfl
@[simp] theorem State.sweepAplAck_dnp (p : Seq) (s : State) :
    (State.sweepAplAck p s).dnp = s.dnp := by unfold State.sweepAplAck; (repeat' split) <;> rfl
@[simp] theorem State.sweepAplAck_jnl (p : Seq) (s : State) :
    (State.sweepAplAck p s).jnl = s.jnl := by unfold State.sweepAplAck; (repeat' split) <;> rfl
@[simp] theorem State.sweepAplAck_hld (p : Seq) (s : State) :
    (State.sweepAplAck p s).hld = s.hld := by unfold State.sweepAplAck; (repeat' split) <;> rfl
@[simp] theorem State.sweepAplAck_ftx (p : Seq) (s : State) :
    (State.sweepAplAck p s).ftx = s.ftx := by unfold State.sweepAplAck; (repeat' split) <;> rfl
@[simp] theorem State.sweepAplAck_lnc (p : Seq) (s : State) :
    (State.sweepAplAck p s).lnc = s.lnc := by unfold State.sweepAplAck; (repeat' split) <;> rfl
@[simp] theorem State.sweepAplAck_frx (p : Seq) (s : State) :
    (State.sweepAplAck p s).frx = s.frx := by unfold State.sweepAplAck; (repeat' split) <;> rfl
@[simp] theorem State.sweepAplAck_apl (p : Seq) (s : State) :
    (State.sweepAplAck p s).apl = s.apl := by unfold State.sweepAplAck; (repeat' split) <;> rfl
@[simp] theorem State.sweepAplAck_now (p : Seq) (s : State) :
    (State.sweepAplAck p s).now = s.now := by unfold State.sweepAplAck; (repeat' split) <;> rfl
@[simp] theorem State.sweepAplAck_inReset (p : Seq) (s : State) :
    (State.sweepAplAck p s).inReset = s.inReset := by unfold State.sweepAplAck; (repeat' split) <;> rfl
@[simp] theorem State.sweepAplAck_pending (p : Seq) (s : State) :
    (State.sweepAplAck p s).pending = s.pending := by unfold State.sweepAplAck; (repeat' split) <;> rfl

/-! `State.sweepNew` -/
@[simp] theorem State.sweepNew_upi (s : State) : (State.sweepNew s).upi = s.upi := rfl
@[simp] theorem State.sweepNew_rgt (s : State) : (State.sweepNew s).rgt = s.rgt := rfl
@[simp] theorem State.sweepNew_dnp (s : State) : (State.sweepNew s).dnp = s.dnp := rfl
@[simp] theorem State.sweepNew_jnl (s : State) : (State.sweepNew s).jnl = s.jnl := rfl
@[simp] theorem State.sweepNew_hld (s : State) : (State.sweepNew s).hld = s.hld := rfl
@[simp] theorem State.sweepNew_ftx (s : State) : (State.sweepNew s).ftx = s.ftx := rfl
@[simp] theorem State.sweepNew_lnc (s : State) : (State.sweepNew s).lnc = s.lnc := rfl
@[simp] theorem State.sweepNew_frx (s : State) : (State.sweepNew s).frx = s.frx := rfl
@[simp] theorem State.sweepNew_apl (s : State) : (State.sweepNew s).apl = s.apl := rfl
@[simp] theorem State.sweepNew_mgp (s : State) : (State.sweepNew s).mgp = s.mgp := rfl
@[simp] theorem State.sweepNew_now (s : State) : (State.sweepNew s).now = s.now := rfl
@[simp] theorem State.sweepNew_inReset (s : State) : (State.sweepNew s).inReset = s.inReset := rfl
@[simp] theorem State.sweepNew_pending (s : State) : (State.sweepNew s).pending = s.pending := rfl

/-! `State.autoResync` -/
@[simp] theorem State.autoResync_upi (r : RegionIx) (s : State) :
    (State.autoResync r s).upi = s.upi := by unfold State.autoResync; dsimp only; split <;> rfl
@[simp] theorem State.autoResync_dnp (r : RegionIx) (s : State) :
    (State.autoResync r s).dnp = s.dnp := by unfold State.autoResync; dsimp only; split <;> rfl
@[simp] theorem State.autoResync_jnl (r : RegionIx) (s : State) :
    (State.autoResync r s).jnl = s.jnl := by unfold State.autoResync; dsimp only; split <;> rfl
@[simp] theorem State.autoResync_hld (r : RegionIx) (s : State) :
    (State.autoResync r s).hld = s.hld := by unfold State.autoResync; dsimp only; split <;> rfl
@[simp] theorem State.autoResync_ftx (r : RegionIx) (s : State) :
    (State.autoResync r s).ftx = s.ftx := by unfold State.autoResync; dsimp only; split <;> rfl
@[simp] theorem State.autoResync_lnc (r : RegionIx) (s : State) :
    (State.autoResync r s).lnc = s.lnc := by unfold State.autoResync; dsimp only; split <;> rfl
@[simp] theorem State.autoResync_frx (r : RegionIx) (s : State) :
    (State.autoResync r s).frx = s.frx := by unfold State.autoResync; dsimp only; split <;> rfl
@[simp] theorem State.autoResync_apl (r : RegionIx) (s : State) :
    (State.autoResync r s).apl = s.apl := by unfold State.autoResync; dsimp only; split <;> rfl
@[simp] theorem State.autoResync_mgp (r : RegionIx) (s : State) :
    (State.autoResync r s).mgp = s.mgp := by unfold State.autoResync; dsimp only; split <;> rfl
@[simp] theorem State.autoResync_now (r : RegionIx) (s : State) :
    (State.autoResync r s).now = s.now := by unfold State.autoResync; dsimp only; split <;> rfl
@[simp] theorem State.autoResync_inReset (r : RegionIx) (s : State) :
    (State.autoResync r s).inReset = s.inReset := by unfold State.autoResync; dsimp only; split <;> rfl
@[simp] theorem State.autoResync_pending (r : RegionIx) (s : State) :
    (State.autoResync r s).pending = s.pending := by unfold State.autoResync; dsimp only; split <;> rfl

/-! `State.finishAtIssue` -/
@[simp] theorem State.finishAtIssue_upi (s : State) :
    (State.finishAtIssue s).upi = s.upi := by unfold State.finishAtIssue; split <;> rfl
@[simp] theorem State.finishAtIssue_rgt (s : State) :
    (State.finishAtIssue s).rgt = s.rgt := by unfold State.finishAtIssue; split <;> rfl
@[simp] theorem State.finishAtIssue_dnp (s : State) :
    (State.finishAtIssue s).dnp = s.dnp := by unfold State.finishAtIssue; split <;> rfl
@[simp] theorem State.finishAtIssue_jnl (s : State) :
    (State.finishAtIssue s).jnl = s.jnl := by unfold State.finishAtIssue; split <;> rfl
@[simp] theorem State.finishAtIssue_hld (s : State) :
    (State.finishAtIssue s).hld = s.hld := by unfold State.finishAtIssue; split <;> rfl
@[simp] theorem State.finishAtIssue_swp (s : State) :
    (State.finishAtIssue s).swp = s.swp := by unfold State.finishAtIssue; split <;> rfl
@[simp] theorem State.finishAtIssue_ftx (s : State) :
    (State.finishAtIssue s).ftx = s.ftx := by unfold State.finishAtIssue; split <;> rfl
@[simp] theorem State.finishAtIssue_lnc (s : State) :
    (State.finishAtIssue s).lnc = s.lnc := by unfold State.finishAtIssue; split <;> rfl
@[simp] theorem State.finishAtIssue_frx (s : State) :
    (State.finishAtIssue s).frx = s.frx := by unfold State.finishAtIssue; split <;> rfl
@[simp] theorem State.finishAtIssue_now (s : State) :
    (State.finishAtIssue s).now = s.now := by unfold State.finishAtIssue; split <;> rfl
@[simp] theorem State.finishAtIssue_inReset (s : State) :
    (State.finishAtIssue s).inReset = s.inReset := by unfold State.finishAtIssue; split <;> rfl
@[simp] theorem State.finishAtIssue_pending (s : State) :
    (State.finishAtIssue s).pending = s.pending := by unfold State.finishAtIssue; split <;> rfl

/-! `State.applyAnswer` -/
@[simp] theorem State.applyAnswer_upi (i : ITag) (st : BusStatus) (s : State) :
    (State.applyAnswer i st s).upi = s.upi := by unfold State.applyAnswer; cases st <;> (split <;> rfl)
@[simp] theorem State.applyAnswer_dnp (i : ITag) (st : BusStatus) (s : State) :
    (State.applyAnswer i st s).dnp = s.dnp := by unfold State.applyAnswer; cases st <;> (split <;> rfl)
@[simp] theorem State.applyAnswer_jnl (i : ITag) (st : BusStatus) (s : State) :
    (State.applyAnswer i st s).jnl = s.jnl := by unfold State.applyAnswer; cases st <;> (split <;> rfl)
@[simp] theorem State.applyAnswer_hld (i : ITag) (st : BusStatus) (s : State) :
    (State.applyAnswer i st s).hld = s.hld := by unfold State.applyAnswer; cases st <;> (split <;> rfl)
@[simp] theorem State.applyAnswer_swp (i : ITag) (st : BusStatus) (s : State) :
    (State.applyAnswer i st s).swp = s.swp := by unfold State.applyAnswer; cases st <;> (split <;> rfl)
@[simp] theorem State.applyAnswer_ftx (i : ITag) (st : BusStatus) (s : State) :
    (State.applyAnswer i st s).ftx = s.ftx := by unfold State.applyAnswer; cases st <;> (split <;> rfl)
@[simp] theorem State.applyAnswer_lnc (i : ITag) (st : BusStatus) (s : State) :
    (State.applyAnswer i st s).lnc = s.lnc := by unfold State.applyAnswer; cases st <;> (split <;> rfl)
@[simp] theorem State.applyAnswer_frx (i : ITag) (st : BusStatus) (s : State) :
    (State.applyAnswer i st s).frx = s.frx := by unfold State.applyAnswer; cases st <;> (split <;> rfl)
@[simp] theorem State.applyAnswer_now (i : ITag) (st : BusStatus) (s : State) :
    (State.applyAnswer i st s).now = s.now := by unfold State.applyAnswer; cases st <;> (split <;> rfl)
@[simp] theorem State.applyAnswer_inReset (i : ITag) (st : BusStatus) (s : State) :
    (State.applyAnswer i st s).inReset = s.inReset := by unfold State.applyAnswer; cases st <;> (split <;> rfl)
@[simp] theorem State.applyAnswer_pending (i : ITag) (st : BusStatus) (s : State) :
    (State.applyAnswer i st s).pending = s.pending := by unfold State.applyAnswer; cases st <;> (split <;> rfl)

/-! `State.transmit` -/
@[simp] theorem State.transmit_upi (h : Header) (ty : FrameType) (b : List Byte) (s : State) :
    (State.transmit h ty b s).upi = s.upi := rfl
@[simp] theorem State.transmit_rgt (h : Header) (ty : FrameType) (b : List Byte) (s : State) :
    (State.transmit h ty b s).rgt = s.rgt := rfl
@[simp] theorem State.transmit_dnp (h : Header) (ty : FrameType) (b : List Byte) (s : State) :
    (State.transmit h ty b s).dnp = s.dnp := rfl
@[simp] theorem State.transmit_jnl (h : Header) (ty : FrameType) (b : List Byte) (s : State) :
    (State.transmit h ty b s).jnl = s.jnl := rfl
@[simp] theorem State.transmit_hld (h : Header) (ty : FrameType) (b : List Byte) (s : State) :
    (State.transmit h ty b s).hld = s.hld := rfl
@[simp] theorem State.transmit_swp (h : Header) (ty : FrameType) (b : List Byte) (s : State) :
    (State.transmit h ty b s).swp = s.swp := rfl
@[simp] theorem State.transmit_lnc (h : Header) (ty : FrameType) (b : List Byte) (s : State) :
    (State.transmit h ty b s).lnc = s.lnc := rfl
@[simp] theorem State.transmit_frx (h : Header) (ty : FrameType) (b : List Byte) (s : State) :
    (State.transmit h ty b s).frx = s.frx := rfl
@[simp] theorem State.transmit_apl (h : Header) (ty : FrameType) (b : List Byte) (s : State) :
    (State.transmit h ty b s).apl = s.apl := rfl
@[simp] theorem State.transmit_mgp (h : Header) (ty : FrameType) (b : List Byte) (s : State) :
    (State.transmit h ty b s).mgp = s.mgp := rfl
@[simp] theorem State.transmit_now (h : Header) (ty : FrameType) (b : List Byte) (s : State) :
    (State.transmit h ty b s).now = s.now := rfl
@[simp] theorem State.transmit_inReset (h : Header) (ty : FrameType) (b : List Byte) (s : State) :
    (State.transmit h ty b s).inReset = s.inReset := rfl
@[simp] theorem State.transmit_pending (h : Header) (ty : FrameType) (b : List Byte) (s : State) :
    (State.transmit h ty b s).pending = s.pending := rfl

/-! `State.buildCtrl` -/
@[simp] theorem State.buildCtrl_upi (m : Bool) (s : State) : (State.buildCtrl m s).upi = s.upi := rfl
@[simp] theorem State.buildCtrl_rgt (m : Bool) (s : State) : (State.buildCtrl m s).rgt = s.rgt := rfl
@[simp] theorem State.buildCtrl_dnp (m : Bool) (s : State) : (State.buildCtrl m s).dnp = s.dnp := rfl
@[simp] theorem State.buildCtrl_jnl (m : Bool) (s : State) : (State.buildCtrl m s).jnl = s.jnl := rfl
@[simp] theorem State.buildCtrl_hld (m : Bool) (s : State) : (State.buildCtrl m s).hld = s.hld := rfl
@[simp] theorem State.buildCtrl_swp (m : Bool) (s : State) : (State.buildCtrl m s).swp = s.swp := rfl
@[simp] theorem State.buildCtrl_lnc (m : Bool) (s : State) : (State.buildCtrl m s).lnc = s.lnc := rfl
@[simp] theorem State.buildCtrl_frx (m : Bool) (s : State) : (State.buildCtrl m s).frx = s.frx := rfl
@[simp] theorem State.buildCtrl_apl (m : Bool) (s : State) : (State.buildCtrl m s).apl = s.apl := rfl
@[simp] theorem State.buildCtrl_mgp (m : Bool) (s : State) : (State.buildCtrl m s).mgp = s.mgp := rfl
@[simp] theorem State.buildCtrl_now (m : Bool) (s : State) : (State.buildCtrl m s).now = s.now := rfl
@[simp] theorem State.buildCtrl_inReset (m : Bool) (s : State) : (State.buildCtrl m s).inReset = s.inReset := rfl
@[simp] theorem State.buildCtrl_pending (m : Bool) (s : State) : (State.buildCtrl m s).pending = s.pending := rfl

/-! `State.buildHello` -/
@[simp] theorem State.buildHello_upi (m : Bool) (s : State) : (State.buildHello m s).upi = s.upi := rfl
@[simp] theorem State.buildHello_rgt (m : Bool) (s : State) : (State.buildHello m s).rgt = s.rgt := rfl
@[simp] theorem State.buildHello_dnp (m : Bool) (s : State) : (State.buildHello m s).dnp = s.dnp := rfl
@[simp] theorem State.buildHello_jnl (m : Bool) (s : State) : (State.buildHello m s).jnl = s.jnl := rfl
@[simp] theorem State.buildHello_hld (m : Bool) (s : State) : (State.buildHello m s).hld = s.hld := rfl
@[simp] theorem State.buildHello_swp (m : Bool) (s : State) : (State.buildHello m s).swp = s.swp := rfl
@[simp] theorem State.buildHello_lnc (m : Bool) (s : State) : (State.buildHello m s).lnc = s.lnc := rfl
@[simp] theorem State.buildHello_frx (m : Bool) (s : State) : (State.buildHello m s).frx = s.frx := rfl
@[simp] theorem State.buildHello_apl (m : Bool) (s : State) : (State.buildHello m s).apl = s.apl := rfl
@[simp] theorem State.buildHello_mgp (m : Bool) (s : State) : (State.buildHello m s).mgp = s.mgp := rfl
@[simp] theorem State.buildHello_now (m : Bool) (s : State) : (State.buildHello m s).now = s.now := rfl
@[simp] theorem State.buildHello_inReset (m : Bool) (s : State) : (State.buildHello m s).inReset = s.inReset := rfl
@[simp] theorem State.buildHello_pending (m : Bool) (s : State) : (State.buildHello m s).pending = s.pending := rfl

/-! `State.buildStart` -/
@[simp] theorem State.buildStart_upi (d : Decision) (s : State) : (State.buildStart d s).upi = s.upi := rfl
@[simp] theorem State.buildStart_rgt (d : Decision) (s : State) : (State.buildStart d s).rgt = s.rgt := rfl
@[simp] theorem State.buildStart_dnp (d : Decision) (s : State) : (State.buildStart d s).dnp = s.dnp := rfl
@[simp] theorem State.buildStart_jnl (d : Decision) (s : State) : (State.buildStart d s).jnl = s.jnl := rfl
@[simp] theorem State.buildStart_hld (d : Decision) (s : State) : (State.buildStart d s).hld = s.hld := rfl
@[simp] theorem State.buildStart_swp (d : Decision) (s : State) : (State.buildStart d s).swp = s.swp := rfl
@[simp] theorem State.buildStart_lnc (d : Decision) (s : State) : (State.buildStart d s).lnc = s.lnc := rfl
@[simp] theorem State.buildStart_frx (d : Decision) (s : State) : (State.buildStart d s).frx = s.frx := rfl
@[simp] theorem State.buildStart_apl (d : Decision) (s : State) : (State.buildStart d s).apl = s.apl := rfl
@[simp] theorem State.buildStart_mgp (d : Decision) (s : State) : (State.buildStart d s).mgp = s.mgp := rfl
@[simp] theorem State.buildStart_now (d : Decision) (s : State) : (State.buildStart d s).now = s.now := rfl
@[simp] theorem State.buildStart_inReset (d : Decision) (s : State) :
    (State.buildStart d s).inReset = s.inReset := rfl
@[simp] theorem State.buildStart_pending (d : Decision) (s : State) :
    (State.buildStart d s).pending = s.pending := rfl

/-! `State.buildData` -/
@[simp] theorem State.buildData_upi (m : Bool) (s : State) :
    (State.buildData m s).upi = s.upi := by simp [State.buildData]
@[simp] theorem State.buildData_rgt (m : Bool) (s : State) :
    (State.buildData m s).rgt = s.rgt := by simp [State.buildData]
@[simp] theorem State.buildData_dnp (m : Bool) (s : State) :
    (State.buildData m s).dnp = s.dnp := by simp [State.buildData]
@[simp] theorem State.buildData_hld (m : Bool) (s : State) :
    (State.buildData m s).hld = s.hld := by simp [State.buildData]
@[simp] theorem State.buildData_swp (m : Bool) (s : State) :
    (State.buildData m s).swp = s.swp := by simp [State.buildData]
@[simp] theorem State.buildData_lnc (m : Bool) (s : State) :
    (State.buildData m s).lnc = s.lnc := by simp [State.buildData]
@[simp] theorem State.buildData_frx (m : Bool) (s : State) :
    (State.buildData m s).frx = s.frx := by simp [State.buildData]
@[simp] theorem State.buildData_apl (m : Bool) (s : State) :
    (State.buildData m s).apl = s.apl := by simp [State.buildData]
@[simp] theorem State.buildData_now (m : Bool) (s : State) :
    (State.buildData m s).now = s.now := by simp [State.buildData]
@[simp] theorem State.buildData_inReset (m : Bool) (s : State) :
    (State.buildData m s).inReset = s.inReset := by simp [State.buildData]
@[simp] theorem State.buildData_pending (m : Bool) (s : State) :
    (State.buildData m s).pending = s.pending := by simp [State.buildData]

/-! `State.raiseNak` -/
@[simp] theorem State.raiseNak_upi (q : NakReason) (s : State) : (State.raiseNak q s).upi = s.upi := rfl
@[simp] theorem State.raiseNak_rgt (q : NakReason) (s : State) : (State.raiseNak q s).rgt = s.rgt := rfl
@[simp] theorem State.raiseNak_dnp (q : NakReason) (s : State) : (State.raiseNak q s).dnp = s.dnp := rfl
@[simp] theorem State.raiseNak_jnl (q : NakReason) (s : State) : (State.raiseNak q s).jnl = s.jnl := rfl
@[simp] theorem State.raiseNak_hld (q : NakReason) (s : State) : (State.raiseNak q s).hld = s.hld := rfl
@[simp] theorem State.raiseNak_swp (q : NakReason) (s : State) : (State.raiseNak q s).swp = s.swp := rfl
@[simp] theorem State.raiseNak_lnc (q : NakReason) (s : State) : (State.raiseNak q s).lnc = s.lnc := rfl
@[simp] theorem State.raiseNak_frx (q : NakReason) (s : State) : (State.raiseNak q s).frx = s.frx := rfl
@[simp] theorem State.raiseNak_apl (q : NakReason) (s : State) : (State.raiseNak q s).apl = s.apl := rfl
@[simp] theorem State.raiseNak_mgp (q : NakReason) (s : State) : (State.raiseNak q s).mgp = s.mgp := rfl
@[simp] theorem State.raiseNak_now (q : NakReason) (s : State) : (State.raiseNak q s).now = s.now := rfl
@[simp] theorem State.raiseNak_inReset (q : NakReason) (s : State) :
    (State.raiseNak q s).inReset = s.inReset := rfl
@[simp] theorem State.raiseNak_pending (q : NakReason) (s : State) :
    (State.raiseNak q s).pending = s.pending := rfl

/-! `State.cutFrame` -/
@[simp] theorem State.cutFrame_upi (s : State) : (State.cutFrame s).upi = s.upi := rfl
@[simp] theorem State.cutFrame_rgt (s : State) : (State.cutFrame s).rgt = s.rgt := rfl
@[simp] theorem State.cutFrame_dnp (s : State) : (State.cutFrame s).dnp = s.dnp := rfl
@[simp] theorem State.cutFrame_jnl (s : State) : (State.cutFrame s).jnl = s.jnl := rfl
@[simp] theorem State.cutFrame_hld (s : State) : (State.cutFrame s).hld = s.hld := rfl
@[simp] theorem State.cutFrame_swp (s : State) : (State.cutFrame s).swp = s.swp := rfl
@[simp] theorem State.cutFrame_lnc (s : State) : (State.cutFrame s).lnc = s.lnc := rfl
@[simp] theorem State.cutFrame_frx (s : State) : (State.cutFrame s).frx = s.frx := rfl
@[simp] theorem State.cutFrame_apl (s : State) : (State.cutFrame s).apl = s.apl := rfl
@[simp] theorem State.cutFrame_mgp (s : State) : (State.cutFrame s).mgp = s.mgp := rfl
@[simp] theorem State.cutFrame_now (s : State) : (State.cutFrame s).now = s.now := rfl
@[simp] theorem State.cutFrame_inReset (s : State) : (State.cutFrame s).inReset = s.inReset := rfl
@[simp] theorem State.cutFrame_pending (s : State) : (State.cutFrame s).pending = s.pending := rfl

/-! `State.lineTaken` -/
@[simp] theorem State.lineTaken_upi (s : State) : (State.lineTaken s).upi = s.upi := rfl
@[simp] theorem State.lineTaken_rgt (s : State) : (State.lineTaken s).rgt = s.rgt := rfl
@[simp] theorem State.lineTaken_dnp (s : State) : (State.lineTaken s).dnp = s.dnp := rfl
@[simp] theorem State.lineTaken_jnl (s : State) : (State.lineTaken s).jnl = s.jnl := rfl
@[simp] theorem State.lineTaken_hld (s : State) : (State.lineTaken s).hld = s.hld := rfl
@[simp] theorem State.lineTaken_swp (s : State) : (State.lineTaken s).swp = s.swp := rfl
@[simp] theorem State.lineTaken_ftx (s : State) : (State.lineTaken s).ftx = s.ftx := rfl
@[simp] theorem State.lineTaken_frx (s : State) : (State.lineTaken s).frx = s.frx := rfl
@[simp] theorem State.lineTaken_apl (s : State) : (State.lineTaken s).apl = s.apl := rfl
@[simp] theorem State.lineTaken_mgp (s : State) : (State.lineTaken s).mgp = s.mgp := rfl
@[simp] theorem State.lineTaken_now (s : State) : (State.lineTaken s).now = s.now := rfl
@[simp] theorem State.lineTaken_inReset (s : State) : (State.lineTaken s).inReset = s.inReset := rfl
@[simp] theorem State.lineTaken_pending (s : State) : (State.lineTaken s).pending = s.pending := rfl

/-! `State.lineContested` -/
@[simp] theorem State.lineContested_upi (s : State) : (State.lineContested s).upi = s.upi := rfl
@[simp] theorem State.lineContested_rgt (s : State) : (State.lineContested s).rgt = s.rgt := rfl
@[simp] theorem State.lineContested_dnp (s : State) : (State.lineContested s).dnp = s.dnp := rfl
@[simp] theorem State.lineContested_jnl (s : State) : (State.lineContested s).jnl = s.jnl := rfl
@[simp] theorem State.lineContested_hld (s : State) : (State.lineContested s).hld = s.hld := rfl
@[simp] theorem State.lineContested_swp (s : State) : (State.lineContested s).swp = s.swp := rfl
@[simp] theorem State.lineContested_ftx (s : State) : (State.lineContested s).ftx = s.ftx := rfl
@[simp] theorem State.lineContested_frx (s : State) : (State.lineContested s).frx = s.frx := rfl
@[simp] theorem State.lineContested_apl (s : State) : (State.lineContested s).apl = s.apl := rfl
@[simp] theorem State.lineContested_mgp (s : State) : (State.lineContested s).mgp = s.mgp := rfl
@[simp] theorem State.lineContested_now (s : State) : (State.lineContested s).now = s.now := rfl
@[simp] theorem State.lineContested_inReset (s : State) : (State.lineContested s).inReset = s.inReset := rfl
@[simp] theorem State.lineContested_pending (s : State) : (State.lineContested s).pending = s.pending := rfl

/-! `State.lineReleased` -/
@[simp] theorem State.lineReleased_upi (s : State) : (State.lineReleased s).upi = s.upi := rfl
@[simp] theorem State.lineReleased_rgt (s : State) : (State.lineReleased s).rgt = s.rgt := rfl
@[simp] theorem State.lineReleased_dnp (s : State) : (State.lineReleased s).dnp = s.dnp := rfl
@[simp] theorem State.lineReleased_jnl (s : State) : (State.lineReleased s).jnl = s.jnl := rfl
@[simp] theorem State.lineReleased_hld (s : State) : (State.lineReleased s).hld = s.hld := rfl
@[simp] theorem State.lineReleased_swp (s : State) : (State.lineReleased s).swp = s.swp := rfl
@[simp] theorem State.lineReleased_ftx (s : State) : (State.lineReleased s).ftx = s.ftx := rfl
@[simp] theorem State.lineReleased_frx (s : State) : (State.lineReleased s).frx = s.frx := rfl
@[simp] theorem State.lineReleased_apl (s : State) : (State.lineReleased s).apl = s.apl := rfl
@[simp] theorem State.lineReleased_mgp (s : State) : (State.lineReleased s).mgp = s.mgp := rfl
@[simp] theorem State.lineReleased_now (s : State) : (State.lineReleased s).now = s.now := rfl
@[simp] theorem State.lineReleased_inReset (s : State) : (State.lineReleased s).inReset = s.inReset := rfl
@[simp] theorem State.lineReleased_pending (s : State) : (State.lineReleased s).pending = s.pending := rfl

/-! `State.finishFrame` -/
@[simp] theorem State.finishFrame_upi (f : TxFrame) (s : State) :
    (State.finishFrame f s).upi = s.upi := by unfold State.finishFrame; dsimp only; split <;> rfl
@[simp] theorem State.finishFrame_rgt (f : TxFrame) (s : State) :
    (State.finishFrame f s).rgt = s.rgt := by unfold State.finishFrame; dsimp only; split <;> rfl
@[simp] theorem State.finishFrame_dnp (f : TxFrame) (s : State) :
    (State.finishFrame f s).dnp = s.dnp := by unfold State.finishFrame; dsimp only; split <;> rfl
@[simp] theorem State.finishFrame_jnl (f : TxFrame) (s : State) :
    (State.finishFrame f s).jnl = s.jnl := by unfold State.finishFrame; dsimp only; split <;> rfl
@[simp] theorem State.finishFrame_hld (f : TxFrame) (s : State) :
    (State.finishFrame f s).hld = s.hld := by unfold State.finishFrame; dsimp only; split <;> rfl
@[simp] theorem State.finishFrame_swp (f : TxFrame) (s : State) :
    (State.finishFrame f s).swp = s.swp := by unfold State.finishFrame; dsimp only; split <;> rfl
@[simp] theorem State.finishFrame_lnc (f : TxFrame) (s : State) :
    (State.finishFrame f s).lnc = s.lnc := by unfold State.finishFrame; dsimp only; split <;> rfl
@[simp] theorem State.finishFrame_frx (f : TxFrame) (s : State) :
    (State.finishFrame f s).frx = s.frx := by unfold State.finishFrame; dsimp only; split <;> rfl
@[simp] theorem State.finishFrame_apl (f : TxFrame) (s : State) :
    (State.finishFrame f s).apl = s.apl := by unfold State.finishFrame; dsimp only; split <;> rfl
@[simp] theorem State.finishFrame_now (f : TxFrame) (s : State) :
    (State.finishFrame f s).now = s.now := by unfold State.finishFrame; dsimp only; split <;> rfl
@[simp] theorem State.finishFrame_inReset (f : TxFrame) (s : State) :
    (State.finishFrame f s).inReset = s.inReset := by unfold State.finishFrame; dsimp only; split <;> rfl
@[simp] theorem State.finishFrame_pending (f : TxFrame) (s : State) :
    (State.finishFrame f s).pending = s.pending := by unfold State.finishFrame; dsimp only; split <;> rfl

/-! `State.reach` -/
@[simp] theorem State.reach_upi (n : Nat) (s : State) : (State.reach n s).upi = s.upi := rfl
@[simp] theorem State.reach_rgt (n : Nat) (s : State) : (State.reach n s).rgt = s.rgt := rfl
@[simp] theorem State.reach_dnp (n : Nat) (s : State) : (State.reach n s).dnp = s.dnp := rfl
@[simp] theorem State.reach_jnl (n : Nat) (s : State) : (State.reach n s).jnl = s.jnl := rfl
@[simp] theorem State.reach_hld (n : Nat) (s : State) : (State.reach n s).hld = s.hld := rfl
@[simp] theorem State.reach_swp (n : Nat) (s : State) : (State.reach n s).swp = s.swp := rfl
@[simp] theorem State.reach_ftx (n : Nat) (s : State) : (State.reach n s).ftx = s.ftx := rfl
@[simp] theorem State.reach_lnc (n : Nat) (s : State) : (State.reach n s).lnc = s.lnc := rfl
@[simp] theorem State.reach_frx (n : Nat) (s : State) : (State.reach n s).frx = s.frx := rfl
@[simp] theorem State.reach_apl (n : Nat) (s : State) : (State.reach n s).apl = s.apl := rfl
@[simp] theorem State.reach_mgp (n : Nat) (s : State) : (State.reach n s).mgp = s.mgp := rfl
@[simp] theorem State.reach_inReset (n : Nat) (s : State) : (State.reach n s).inReset = s.inReset := rfl
@[simp] theorem State.reach_pending (n : Nat) (s : State) : (State.reach n s).pending = s.pending := rfl

/-! `State.dropLine` -/
@[simp] theorem State.dropLine_upi (s : State) : (State.dropLine s).upi = s.upi := rfl
@[simp] theorem State.dropLine_rgt (s : State) : (State.dropLine s).rgt = s.rgt := rfl
@[simp] theorem State.dropLine_dnp (s : State) : (State.dropLine s).dnp = s.dnp := rfl
@[simp] theorem State.dropLine_jnl (s : State) : (State.dropLine s).jnl = s.jnl := rfl
@[simp] theorem State.dropLine_hld (s : State) : (State.dropLine s).hld = s.hld := rfl
@[simp] theorem State.dropLine_swp (s : State) : (State.dropLine s).swp = s.swp := rfl
@[simp] theorem State.dropLine_apl (s : State) : (State.dropLine s).apl = s.apl := rfl
@[simp] theorem State.dropLine_mgp (s : State) : (State.dropLine s).mgp = s.mgp := rfl
@[simp] theorem State.dropLine_now (s : State) : (State.dropLine s).now = s.now := rfl
@[simp] theorem State.dropLine_inReset (s : State) : (State.dropLine s).inReset = s.inReset := rfl
@[simp] theorem State.dropLine_pending (s : State) : (State.dropLine s).pending = s.pending := rfl

/-! `State.enterTraining` -/
@[simp] theorem State.enterTraining_upi (s : State) : (State.enterTraining s).upi = s.upi := rfl
@[simp] theorem State.enterTraining_rgt (s : State) : (State.enterTraining s).rgt = s.rgt := rfl
@[simp] theorem State.enterTraining_dnp (s : State) : (State.enterTraining s).dnp = s.dnp := rfl
@[simp] theorem State.enterTraining_jnl (s : State) : (State.enterTraining s).jnl = s.jnl := rfl
@[simp] theorem State.enterTraining_hld (s : State) : (State.enterTraining s).hld = s.hld := rfl
@[simp] theorem State.enterTraining_swp (s : State) : (State.enterTraining s).swp = s.swp := rfl
@[simp] theorem State.enterTraining_ftx (s : State) : (State.enterTraining s).ftx = s.ftx := rfl
@[simp] theorem State.enterTraining_frx (s : State) : (State.enterTraining s).frx = s.frx := rfl
@[simp] theorem State.enterTraining_apl (s : State) : (State.enterTraining s).apl = s.apl := rfl
@[simp] theorem State.enterTraining_mgp (s : State) : (State.enterTraining s).mgp = s.mgp := rfl
@[simp] theorem State.enterTraining_now (s : State) : (State.enterTraining s).now = s.now := rfl
@[simp] theorem State.enterTraining_inReset (s : State) : (State.enterTraining s).inReset = s.inReset := rfl
@[simp] theorem State.enterTraining_pending (s : State) : (State.enterTraining s).pending = s.pending := rfl

/-! `State.goDown` -/
@[simp] theorem State.goDown_upi (c : DownCause) (s : State) :
    (State.goDown c s).upi = s.upi := by unfold State.goDown; dsimp only; (repeat' split) <;> rfl
@[simp] theorem State.goDown_rgt (c : DownCause) (s : State) :
    (State.goDown c s).rgt = s.rgt := by unfold State.goDown; dsimp only; (repeat' split) <;> rfl
@[simp] theorem State.goDown_dnp (c : DownCause) (s : State) :
    (State.goDown c s).dnp = s.dnp := by unfold State.goDown; dsimp only; (repeat' split) <;> rfl
@[simp] theorem State.goDown_jnl (c : DownCause) (s : State) :
    (State.goDown c s).jnl = s.jnl := by unfold State.goDown; dsimp only; (repeat' split) <;> rfl
@[simp] theorem State.goDown_hld (c : DownCause) (s : State) :
    (State.goDown c s).hld = s.hld := by unfold State.goDown; dsimp only; (repeat' split) <;> rfl
@[simp] theorem State.goDown_swp (c : DownCause) (s : State) :
    (State.goDown c s).swp = s.swp := by unfold State.goDown; dsimp only; (repeat' split) <;> rfl
@[simp] theorem State.goDown_apl (c : DownCause) (s : State) :
    (State.goDown c s).apl = s.apl := by unfold State.goDown; dsimp only; (repeat' split) <;> rfl
@[simp] theorem State.goDown_now (c : DownCause) (s : State) :
    (State.goDown c s).now = s.now := by unfold State.goDown; dsimp only; (repeat' split) <;> rfl
@[simp] theorem State.goDown_inReset (c : DownCause) (s : State) :
    (State.goDown c s).inReset = s.inReset := by unfold State.goDown; dsimp only; (repeat' split) <;> rfl
@[simp] theorem State.goDown_pending (c : DownCause) (s : State) :
    (State.goDown c s).pending = s.pending := by unfold State.goDown; dsimp only; (repeat' split) <;> rfl

/-! `State.goDisabled` -/
@[simp] theorem State.goDisabled_upi (s : State) :
    (State.goDisabled s).upi = s.upi := by unfold State.goDisabled; split <;> simp
@[simp] theorem State.goDisabled_rgt (s : State) :
    (State.goDisabled s).rgt = s.rgt := by unfold State.goDisabled; split <;> simp
@[simp] theorem State.goDisabled_dnp (s : State) :
    (State.goDisabled s).dnp = s.dnp := by unfold State.goDisabled; split <;> simp
@[simp] theorem State.goDisabled_hld (s : State) :
    (State.goDisabled s).hld = s.hld := by unfold State.goDisabled; split <;> simp
@[simp] theorem State.goDisabled_swp (s : State) :
    (State.goDisabled s).swp = s.swp := by unfold State.goDisabled; split <;> simp
@[simp] theorem State.goDisabled_apl (s : State) :
    (State.goDisabled s).apl = s.apl := by unfold State.goDisabled; split <;> simp
@[simp] theorem State.goDisabled_now (s : State) :
    (State.goDisabled s).now = s.now := by unfold State.goDisabled; split <;> simp
@[simp] theorem State.goDisabled_inReset (s : State) :
    (State.goDisabled s).inReset = s.inReset := by unfold State.goDisabled; split <;> simp
@[simp] theorem State.goDisabled_pending (s : State) :
    (State.goDisabled s).pending = s.pending := by unfold State.goDisabled; split <;> simp

/-! `State.goUp` -/
@[simp] theorem State.goUp_upi (u : Turn) (s : State) : (State.goUp u s).upi = s.upi := rfl
@[simp] theorem State.goUp_rgt (u : Turn) (s : State) : (State.goUp u s).rgt = s.rgt := rfl
@[simp] theorem State.goUp_dnp (u : Turn) (s : State) : (State.goUp u s).dnp = s.dnp := rfl
@[simp] theorem State.goUp_jnl (u : Turn) (s : State) : (State.goUp u s).jnl = s.jnl := rfl
@[simp] theorem State.goUp_hld (u : Turn) (s : State) : (State.goUp u s).hld = s.hld := rfl
@[simp] theorem State.goUp_swp (u : Turn) (s : State) : (State.goUp u s).swp = s.swp := rfl
@[simp] theorem State.goUp_ftx (u : Turn) (s : State) : (State.goUp u s).ftx = s.ftx := rfl
@[simp] theorem State.goUp_frx (u : Turn) (s : State) : (State.goUp u s).frx = s.frx := rfl
@[simp] theorem State.goUp_apl (u : Turn) (s : State) : (State.goUp u s).apl = s.apl := rfl
@[simp] theorem State.goUp_now (u : Turn) (s : State) : (State.goUp u s).now = s.now := rfl
@[simp] theorem State.goUp_inReset (u : Turn) (s : State) : (State.goUp u s).inReset = s.inReset := rfl
@[simp] theorem State.goUp_pending (u : Turn) (s : State) : (State.goUp u s).pending = s.pending := rfl

/-! `State.ackCheck` -/
@[simp] theorem State.ackCheck_upi (s : State) :
    (State.ackCheck s).upi = s.upi := by unfold State.ackCheck; (repeat' split) <;> simp
@[simp] theorem State.ackCheck_rgt (s : State) :
    (State.ackCheck s).rgt = s.rgt := by unfold State.ackCheck; (repeat' split) <;> simp
@[simp] theorem State.ackCheck_dnp (s : State) :
    (State.ackCheck s).dnp = s.dnp := by unfold State.ackCheck; (repeat' split) <;> simp
@[simp] theorem State.ackCheck_hld (s : State) :
    (State.ackCheck s).hld = s.hld := by unfold State.ackCheck; (repeat' split) <;> simp
@[simp] theorem State.ackCheck_swp (s : State) :
    (State.ackCheck s).swp = s.swp := by unfold State.ackCheck; (repeat' split) <;> simp
@[simp] theorem State.ackCheck_ftx (s : State) :
    (State.ackCheck s).ftx = s.ftx := by unfold State.ackCheck; (repeat' split) <;> simp
@[simp] theorem State.ackCheck_lnc (s : State) :
    (State.ackCheck s).lnc = s.lnc := by unfold State.ackCheck; (repeat' split) <;> simp
@[simp] theorem State.ackCheck_frx (s : State) :
    (State.ackCheck s).frx = s.frx := by unfold State.ackCheck; (repeat' split) <;> simp
@[simp] theorem State.ackCheck_apl (s : State) :
    (State.ackCheck s).apl = s.apl := by unfold State.ackCheck; (repeat' split) <;> simp
@[simp] theorem State.ackCheck_now (s : State) :
    (State.ackCheck s).now = s.now := by unfold State.ackCheck; (repeat' split) <;> simp
@[simp] theorem State.ackCheck_inReset (s : State) :
    (State.ackCheck s).inReset = s.inReset := by unfold State.ackCheck; (repeat' split) <;> simp
@[simp] theorem State.ackCheck_pending (s : State) :
    (State.ackCheck s).pending = s.pending := by unfold State.ackCheck; (repeat' split) <;> simp

/-! `State.enterHold` -/
@[simp] theorem State.enterHold_upi (u : Turn) (s : State) :
    (State.enterHold u s).upi = s.upi := by simp [State.enterHold]
@[simp] theorem State.enterHold_rgt (u : Turn) (s : State) :
    (State.enterHold u s).rgt = s.rgt := by simp [State.enterHold]
@[simp] theorem State.enterHold_dnp (u : Turn) (s : State) :
    (State.enterHold u s).dnp = s.dnp := by simp [State.enterHold]
@[simp] theorem State.enterHold_hld (u : Turn) (s : State) :
    (State.enterHold u s).hld = s.hld := by simp [State.enterHold]
@[simp] theorem State.enterHold_swp (u : Turn) (s : State) :
    (State.enterHold u s).swp = s.swp := by simp [State.enterHold]
@[simp] theorem State.enterHold_ftx (u : Turn) (s : State) :
    (State.enterHold u s).ftx = s.ftx := by simp [State.enterHold]
@[simp] theorem State.enterHold_frx (u : Turn) (s : State) :
    (State.enterHold u s).frx = s.frx := by simp [State.enterHold]
@[simp] theorem State.enterHold_apl (u : Turn) (s : State) :
    (State.enterHold u s).apl = s.apl := by simp [State.enterHold]
@[simp] theorem State.enterHold_now (u : Turn) (s : State) :
    (State.enterHold u s).now = s.now := by simp [State.enterHold]
@[simp] theorem State.enterHold_inReset (u : Turn) (s : State) :
    (State.enterHold u s).inReset = s.inReset := by simp [State.enterHold]
@[simp] theorem State.enterHold_pending (u : Turn) (s : State) :
    (State.enterHold u s).pending = s.pending := by simp [State.enterHold]

/-! `State.acceptPresented` -/
@[simp] theorem State.acceptPresented_rgt (s : State) : (State.acceptPresented s).rgt = s.rgt := rfl
@[simp] theorem State.acceptPresented_dnp (s : State) : (State.acceptPresented s).dnp = s.dnp := rfl
@[simp] theorem State.acceptPresented_jnl (s : State) : (State.acceptPresented s).jnl = s.jnl := rfl
@[simp] theorem State.acceptPresented_hld (s : State) : (State.acceptPresented s).hld = s.hld := rfl
@[simp] theorem State.acceptPresented_swp (s : State) : (State.acceptPresented s).swp = s.swp := rfl
@[simp] theorem State.acceptPresented_ftx (s : State) : (State.acceptPresented s).ftx = s.ftx := rfl
@[simp] theorem State.acceptPresented_lnc (s : State) : (State.acceptPresented s).lnc = s.lnc := rfl
@[simp] theorem State.acceptPresented_frx (s : State) : (State.acceptPresented s).frx = s.frx := rfl
@[simp] theorem State.acceptPresented_apl (s : State) : (State.acceptPresented s).apl = s.apl := rfl
@[simp] theorem State.acceptPresented_mgp (s : State) : (State.acceptPresented s).mgp = s.mgp := rfl
@[simp] theorem State.acceptPresented_now (s : State) : (State.acceptPresented s).now = s.now := rfl
@[simp] theorem State.acceptPresented_inReset (s : State) : (State.acceptPresented s).inReset = s.inReset := rfl
@[simp] theorem State.acceptPresented_pending (s : State) : (State.acceptPresented s).pending = s.pending := rfl

/-! `State.respond` -/
@[simp] theorem State.respond_rgt (g : Tag) (st : BusStatus) (d : List Byte) (s : State) :
    (State.respond g st d s).rgt = s.rgt := rfl
@[simp] theorem State.respond_dnp (g : Tag) (st : BusStatus) (d : List Byte) (s : State) :
    (State.respond g st d s).dnp = s.dnp := rfl
@[simp] theorem State.respond_jnl (g : Tag) (st : BusStatus) (d : List Byte) (s : State) :
    (State.respond g st d s).jnl = s.jnl := rfl
@[simp] theorem State.respond_hld (g : Tag) (st : BusStatus) (d : List Byte) (s : State) :
    (State.respond g st d s).hld = s.hld := rfl
@[simp] theorem State.respond_swp (g : Tag) (st : BusStatus) (d : List Byte) (s : State) :
    (State.respond g st d s).swp = s.swp := rfl
@[simp] theorem State.respond_ftx (g : Tag) (st : BusStatus) (d : List Byte) (s : State) :
    (State.respond g st d s).ftx = s.ftx := rfl
@[simp] theorem State.respond_lnc (g : Tag) (st : BusStatus) (d : List Byte) (s : State) :
    (State.respond g st d s).lnc = s.lnc := rfl
@[simp] theorem State.respond_frx (g : Tag) (st : BusStatus) (d : List Byte) (s : State) :
    (State.respond g st d s).frx = s.frx := rfl
@[simp] theorem State.respond_apl (g : Tag) (st : BusStatus) (d : List Byte) (s : State) :
    (State.respond g st d s).apl = s.apl := rfl
@[simp] theorem State.respond_mgp (g : Tag) (st : BusStatus) (d : List Byte) (s : State) :
    (State.respond g st d s).mgp = s.mgp := rfl
@[simp] theorem State.respond_now (g : Tag) (st : BusStatus) (d : List Byte) (s : State) :
    (State.respond g st d s).now = s.now := rfl
@[simp] theorem State.respond_inReset (g : Tag) (st : BusStatus) (d : List Byte) (s : State) :
    (State.respond g st d s).inReset = s.inReset := rfl
@[simp] theorem State.respond_pending (g : Tag) (st : BusStatus) (d : List Byte) (s : State) :
    (State.respond g st d s).pending = s.pending := rfl

/-! `State.popHead` -/
@[simp] theorem State.popHead_rgt (s : State) : (State.popHead s).rgt = s.rgt := rfl
@[simp] theorem State.popHead_dnp (s : State) : (State.popHead s).dnp = s.dnp := rfl
@[simp] theorem State.popHead_jnl (s : State) : (State.popHead s).jnl = s.jnl := rfl
@[simp] theorem State.popHead_hld (s : State) : (State.popHead s).hld = s.hld := rfl
@[simp] theorem State.popHead_swp (s : State) : (State.popHead s).swp = s.swp := rfl
@[simp] theorem State.popHead_ftx (s : State) : (State.popHead s).ftx = s.ftx := rfl
@[simp] theorem State.popHead_lnc (s : State) : (State.popHead s).lnc = s.lnc := rfl
@[simp] theorem State.popHead_frx (s : State) : (State.popHead s).frx = s.frx := rfl
@[simp] theorem State.popHead_apl (s : State) : (State.popHead s).apl = s.apl := rfl
@[simp] theorem State.popHead_mgp (s : State) : (State.popHead s).mgp = s.mgp := rfl
@[simp] theorem State.popHead_now (s : State) : (State.popHead s).now = s.now := rfl
@[simp] theorem State.popHead_inReset (s : State) : (State.popHead s).inReset = s.inReset := rfl
@[simp] theorem State.popHead_pending (s : State) : (State.popHead s).pending = s.pending := rfl

/-! `State.stallActions` -/
@[simp] theorem State.stallActions_upi (x : RegionIx) (s : State) :
    (State.stallActions x s).upi = s.upi := by simp [State.stallActions]
@[simp] theorem State.stallActions_dnp (x : RegionIx) (s : State) :
    (State.stallActions x s).dnp = s.dnp := by simp [State.stallActions]
@[simp] theorem State.stallActions_jnl (x : RegionIx) (s : State) :
    (State.stallActions x s).jnl = s.jnl := by simp [State.stallActions]
@[simp] theorem State.stallActions_hld (x : RegionIx) (s : State) :
    (State.stallActions x s).hld = s.hld := by simp [State.stallActions]
@[simp] theorem State.stallActions_ftx (x : RegionIx) (s : State) :
    (State.stallActions x s).ftx = s.ftx := by simp [State.stallActions]
@[simp] theorem State.stallActions_lnc (x : RegionIx) (s : State) :
    (State.stallActions x s).lnc = s.lnc := by simp [State.stallActions]
@[simp] theorem State.stallActions_frx (x : RegionIx) (s : State) :
    (State.stallActions x s).frx = s.frx := by simp [State.stallActions]
@[simp] theorem State.stallActions_apl (x : RegionIx) (s : State) :
    (State.stallActions x s).apl = s.apl := by simp [State.stallActions]
@[simp] theorem State.stallActions_now (x : RegionIx) (s : State) :
    (State.stallActions x s).now = s.now := by simp [State.stallActions]
@[simp] theorem State.stallActions_inReset (x : RegionIx) (s : State) :
    (State.stallActions x s).inReset = s.inReset := by simp [State.stallActions]
@[simp] theorem State.stallActions_pending (x : RegionIx) (s : State) :
    (State.stallActions x s).pending = s.pending := by simp [State.stallActions]

/-! `State.stallCheck` -/
@[simp] theorem State.stallCheck_dnp (s : State) :
    (State.stallCheck s).dnp = s.dnp := by unfold State.stallCheck; (repeat' split) <;> first | rfl | simp
@[simp] theorem State.stallCheck_jnl (s : State) :
    (State.stallCheck s).jnl = s.jnl := by unfold State.stallCheck; (repeat' split) <;> first | rfl | simp
@[simp] theorem State.stallCheck_hld (s : State) :
    (State.stallCheck s).hld = s.hld := by unfold State.stallCheck; (repeat' split) <;> first | rfl | simp
@[simp] theorem State.stallCheck_ftx (s : State) :
    (State.stallCheck s).ftx = s.ftx := by unfold State.stallCheck; (repeat' split) <;> first | rfl | simp
@[simp] theorem State.stallCheck_lnc (s : State) :
    (State.stallCheck s).lnc = s.lnc := by unfold State.stallCheck; (repeat' split) <;> first | rfl | simp
@[simp] theorem State.stallCheck_frx (s : State) :
    (State.stallCheck s).frx = s.frx := by unfold State.stallCheck; (repeat' split) <;> first | rfl | simp
@[simp] theorem State.stallCheck_apl (s : State) :
    (State.stallCheck s).apl = s.apl := by unfold State.stallCheck; (repeat' split) <;> first | rfl | simp
@[simp] theorem State.stallCheck_now (s : State) :
    (State.stallCheck s).now = s.now := by unfold State.stallCheck; (repeat' split) <;> first | rfl | simp
@[simp] theorem State.stallCheck_inReset (s : State) :
    (State.stallCheck s).inReset = s.inReset := by unfold State.stallCheck; (repeat' split) <;> first | rfl | simp
@[simp] theorem State.stallCheck_pending (s : State) :
    (State.stallCheck s).pending = s.pending := by unfold State.stallCheck; (repeat' split) <;> first | rfl | simp

/-! `State.issue` -/
@[simp] theorem State.issue_upi (q : Requester) (i : ITag) (o : Owner) (a : Addr) (b : BusBody) (s : State) :
    (State.issue q i o a b s).upi = s.upi := rfl
@[simp] theorem State.issue_rgt (q : Requester) (i : ITag) (o : Owner) (a : Addr) (b : BusBody) (s : State) :
    (State.issue q i o a b s).rgt = s.rgt := rfl
@[simp] theorem State.issue_jnl (q : Requester) (i : ITag) (o : Owner) (a : Addr) (b : BusBody) (s : State) :
    (State.issue q i o a b s).jnl = s.jnl := rfl
@[simp] theorem State.issue_hld (q : Requester) (i : ITag) (o : Owner) (a : Addr) (b : BusBody) (s : State) :
    (State.issue q i o a b s).hld = s.hld := rfl
@[simp] theorem State.issue_swp (q : Requester) (i : ITag) (o : Owner) (a : Addr) (b : BusBody) (s : State) :
    (State.issue q i o a b s).swp = s.swp := rfl
@[simp] theorem State.issue_ftx (q : Requester) (i : ITag) (o : Owner) (a : Addr) (b : BusBody) (s : State) :
    (State.issue q i o a b s).ftx = s.ftx := rfl
@[simp] theorem State.issue_lnc (q : Requester) (i : ITag) (o : Owner) (a : Addr) (b : BusBody) (s : State) :
    (State.issue q i o a b s).lnc = s.lnc := rfl
@[simp] theorem State.issue_frx (q : Requester) (i : ITag) (o : Owner) (a : Addr) (b : BusBody) (s : State) :
    (State.issue q i o a b s).frx = s.frx := rfl
@[simp] theorem State.issue_apl (q : Requester) (i : ITag) (o : Owner) (a : Addr) (b : BusBody) (s : State) :
    (State.issue q i o a b s).apl = s.apl := rfl
@[simp] theorem State.issue_mgp (q : Requester) (i : ITag) (o : Owner) (a : Addr) (b : BusBody) (s : State) :
    (State.issue q i o a b s).mgp = s.mgp := rfl
@[simp] theorem State.issue_now (q : Requester) (i : ITag) (o : Owner) (a : Addr) (b : BusBody) (s : State) :
    (State.issue q i o a b s).now = s.now := rfl
@[simp] theorem State.issue_inReset (q : Requester) (i : ITag) (o : Owner) (a : Addr) (b : BusBody) (s : State) :
    (State.issue q i o a b s).inReset = s.inReset := rfl
@[simp] theorem State.issue_pending (q : Requester) (i : ITag) (o : Owner) (a : Addr) (b : BusBody) (s : State) :
    (State.issue q i o a b s).pending = s.pending := rfl

/-! `State.dwellCheck` -/
@[simp] theorem State.dwellCheck_upi (s : State) :
    (State.dwellCheck s).upi = s.upi := by unfold State.dwellCheck; (repeat' split) <;> rfl
@[simp] theorem State.dwellCheck_rgt (s : State) :
    (State.dwellCheck s).rgt = s.rgt := by unfold State.dwellCheck; (repeat' split) <;> rfl
@[simp] theorem State.dwellCheck_dnp (s : State) :
    (State.dwellCheck s).dnp = s.dnp := by unfold State.dwellCheck; (repeat' split) <;> rfl
@[simp] theorem State.dwellCheck_jnl (s : State) :
    (State.dwellCheck s).jnl = s.jnl := by unfold State.dwellCheck; (repeat' split) <;> rfl
@[simp] theorem State.dwellCheck_hld (s : State) :
    (State.dwellCheck s).hld = s.hld := by unfold State.dwellCheck; (repeat' split) <;> rfl
@[simp] theorem State.dwellCheck_swp (s : State) :
    (State.dwellCheck s).swp = s.swp := by unfold State.dwellCheck; (repeat' split) <;> rfl
@[simp] theorem State.dwellCheck_ftx (s : State) :
    (State.dwellCheck s).ftx = s.ftx := by unfold State.dwellCheck; (repeat' split) <;> rfl
@[simp] theorem State.dwellCheck_frx (s : State) :
    (State.dwellCheck s).frx = s.frx := by unfold State.dwellCheck; (repeat' split) <;> rfl
@[simp] theorem State.dwellCheck_apl (s : State) :
    (State.dwellCheck s).apl = s.apl := by unfold State.dwellCheck; (repeat' split) <;> rfl
@[simp] theorem State.dwellCheck_mgp (s : State) :
    (State.dwellCheck s).mgp = s.mgp := by unfold State.dwellCheck; (repeat' split) <;> rfl
@[simp] theorem State.dwellCheck_now (s : State) :
    (State.dwellCheck s).now = s.now := by unfold State.dwellCheck; (repeat' split) <;> rfl
@[simp] theorem State.dwellCheck_inReset (s : State) :
    (State.dwellCheck s).inReset = s.inReset := by unfold State.dwellCheck; (repeat' split) <;> rfl
@[simp] theorem State.dwellCheck_pending (s : State) :
    (State.dwellCheck s).pending = s.pending := by unfold State.dwellCheck; (repeat' split) <;> rfl

/-! `State.sendWanted` -/
@[simp] theorem State.sendWanted_upi (s : State) :
    (State.sendWanted s).upi = s.upi := by unfold State.sendWanted; (repeat' split) <;> rfl
@[simp] theorem State.sendWanted_rgt (s : State) :
    (State.sendWanted s).rgt = s.rgt := by unfold State.sendWanted; (repeat' split) <;> rfl
@[simp] theorem State.sendWanted_dnp (s : State) :
    (State.sendWanted s).dnp = s.dnp := by unfold State.sendWanted; (repeat' split) <;> rfl
@[simp] theorem State.sendWanted_jnl (s : State) :
    (State.sendWanted s).jnl = s.jnl := by unfold State.sendWanted; (repeat' split) <;> rfl
@[simp] theorem State.sendWanted_hld (s : State) :
    (State.sendWanted s).hld = s.hld := by unfold State.sendWanted; (repeat' split) <;> rfl
@[simp] theorem State.sendWanted_swp (s : State) :
    (State.sendWanted s).swp = s.swp := by unfold State.sendWanted; (repeat' split) <;> rfl
@[simp] theorem State.sendWanted_frx (s : State) :
    (State.sendWanted s).frx = s.frx := by unfold State.sendWanted; (repeat' split) <;> rfl
@[simp] theorem State.sendWanted_apl (s : State) :
    (State.sendWanted s).apl = s.apl := by unfold State.sendWanted; (repeat' split) <;> rfl
@[simp] theorem State.sendWanted_mgp (s : State) :
    (State.sendWanted s).mgp = s.mgp := by unfold State.sendWanted; (repeat' split) <;> rfl
@[simp] theorem State.sendWanted_now (s : State) :
    (State.sendWanted s).now = s.now := by unfold State.sendWanted; (repeat' split) <;> rfl
@[simp] theorem State.sendWanted_inReset (s : State) :
    (State.sendWanted s).inReset = s.inReset := by unfold State.sendWanted; (repeat' split) <;> rfl
@[simp] theorem State.sendWanted_pending (s : State) :
    (State.sendWanted s).pending = s.pending := by unfold State.sendWanted; (repeat' split) <;> rfl

end Sys2Proof.Machine
end

