-- ==== Sys2Proof/Laws/Ops.lean ====
section
/-! SUPPORT. What each shared operation does, one lemma an operation, for proofs to cite in place of unfolding it. -/

namespace Sys2Proof.Machine

/-! ### Events and counters (R176, R179) -/

/-- A saturating counter never falls, and rises by one below its limit. -/
theorem satInc_toNat {w : Nat} (c : BitVec w) :
    (satInc c).toNat = if c = BitVec.allOnes w then c.toNat else c.toNat + 1 := by
  unfold satInc
  split
  · rfl
  · rename_i h
    have hc : c.toNat ≠ 2 ^ w - 1 := fun hh => h (by apply BitVec.eq_of_toNat_eq; simp [hh])
    have := c.isLt
    rcases w with _ | w
    · exact absurd (Subsingleton.elim _ _) h
    · rw [BitVec.toNat_add]
      have : (1 : BitVec (w + 1)).toNat = 1 := by simp
      rw [this]
      exact Nat.mod_eq_of_lt (by omega)

/-- A raised kind is pending, with its count raised (R176). -/
theorem Mgp.raise_event (k : EventKind) (m : Mgp) :
    (m.raise k).events[k.ix] = ⟨true, satInc m.events[k.ix].count⟩ := by
  simp [Mgp.raise]

/-- A raise keeps every other kind. -/
theorem Mgp.raise_other (k : EventKind) (m : Mgp) (i : Fin 16) (h : i ≠ k.ix) :
    (m.raise k).events[i] = m.events[i] := by
  have : k.ix.val ≠ i.val := fun hh => h (Fin.ext hh.symm)
  simp [Mgp.raise, this]

/-- A raise never takes a pending kind back. -/
theorem Mgp.raise_keeps_pending (k : EventKind) (m : Mgp) (i : Fin 16) (h : m.events[i].pending = true) :
    (m.raise k).events[i].pending = true := by
  by_cases hi : i = k.ix
  · subst hi; rw [Mgp.raise_event]
  · rw [Mgp.raise_other k m i hi, h]

@[simp] theorem Mgp.raise_counters (k : EventKind) (m : Mgp) : (m.raise k).counters = m.counters := rfl
@[simp] theorem Mgp.raise_response (k : EventKind) (m : Mgp) : (m.raise k).response = m.response := rfl
@[simp] theorem Mgp.raise_miso (k : EventKind) (m : Mgp) : (m.raise k).miso = m.miso := rfl
@[simp] theorem Mgp.raise_misoTail (k : EventKind) (m : Mgp) : (m.raise k).misoTail = m.misoTail := rfl
@[simp] theorem Mgp.count_events (c : DevCounter) (m : Mgp) : (m.count c).events = m.events := rfl
@[simp] theorem Mgp.count_response (c : DevCounter) (m : Mgp) : (m.count c).response = m.response := rfl
@[simp] theorem Mgp.count_miso (c : DevCounter) (m : Mgp) : (m.count c).miso = m.miso := rfl
@[simp] theorem Mgp.count_misoTail (c : DevCounter) (m : Mgp) : (m.count c).misoTail = m.misoTail := rfl

/-! ### One event -/

/-- Under RESET no event acts (assumption log 6). -/
theorem State.event_inReset (f : State → Option State) (s : State) (h : s.inReset = true) : s.event f = s := by
  simp [State.event, h]

/-- An event that can happen is followed by its reactions. -/
theorem State.event_some (f : State → Option State) (s t : State) (h : s.inReset = false) (ht : f s = some t) :
    s.event f = t.settle := by
  simp [State.event, h, ht]

/-- An event that cannot happen changes nothing (assumption log 1). -/
theorem State.event_none (f : State → Option State) (s : State) (ht : f s = none) : s.event f = s := by
  by_cases h : s.inReset = true <;> simp [State.event, h, ht]

/-! ### The region table (R9, R14) -/

/-- Reading the table after a replacement. -/
theorem State.region_setRegion (r q : RegionIx) (e : Region) (s : State) :
    (s.setRegion r e).region q = if q = r then e else s.region q := by
  by_cases h : q = r
  · subst h; simp [State.region, State.setRegion]
  · have : r.val ≠ q.val := fun hh => h (Fin.ext hh.symm)
    simp [State.region, State.setRegion, h, this]

/-- The region found for a page is live and covers it. -/
theorem State.lookup_some (s : State) (p : Nat) (x : RegionIx) (h : s.lookup p = some x) :
    (s.region x).state ≠ .disabled ∧ (s.region x).fields.covers p = true := by
  have := List.find?_some h
  simpa using this

/-- No region is found for a page exactly when no live entry covers it. -/
theorem State.lookup_none (s : State) (p : Nat) :
    s.lookup p = none ↔ ∀ x : RegionIx, (s.region x).state = .disabled ∨ (s.region x).fields.covers p = false := by
  constructor
  · intro h x
    have := List.find?_eq_none.1 h x (List.mem_finRange x)
    by_cases hd : (s.region x).state = .disabled
    · exact .inl hd
    · right; simpa [hd] using this
  · intro h
    refine List.find?_eq_none.2 fun x _ => ?_
    rcases h x with h | h <;> simp [h]

/-- Divergence reaches only a live SOURCE entry (R9). -/
theorem State.diverge_idle (r : RegionIx) (s : State) (h : (s.region r).capturing = false) : s.diverge r = s := by
  simp [State.diverge, h]

/-- What divergence does (R9, R79, R91). -/
theorem State.diverge_live (r : RegionIx) (s : State) (h : (s.region r).capturing = true) :
    s.diverge r = { (s.setRegionState r .diverged).dropSweep r with mgp := s.mgp.raiseDiverged r } := by
  simp [State.diverge, h]

/-! ### The journal (R41, R52, R59, R101) -/

/-- An evaluation of the water marks touches only the latch and the events. -/
theorem State.evalMarks_keeps (s : State) :
    s.evalMarks.jnl = { s.jnl with latch := s.evalMarks.jnl.latch } ∧
      s.evalMarks.mgp.counters = s.mgp.counters ∧ s.evalMarks.mgp.divergedMask = s.mgp.divergedMask ∧
      s.evalMarks.mgp.enableMask = s.mgp.enableMask ∧ s.evalMarks.mgp.response = s.mgp.response ∧
      s.evalMarks.mgp.miso = s.mgp.miso ∧ s.evalMarks.mgp.misoTail = s.mgp.misoTail := by
  unfold State.evalMarks
  split
  · exact ⟨rfl, rfl, rfl, rfl, rfl, rfl, rfl⟩
  · split <;> exact ⟨rfl, rfl, rfl, rfl, rfl, rfl, rfl⟩

/-- Replacing the record list touches the list, the latch and the events only. -/
theorem State.setRecords_keeps (rs : List Record) (s : State) :
    (s.setRecords rs).jnl = { s.jnl with records := rs, latch := (s.setRecords rs).jnl.latch } ∧
      (s.setRecords rs).mgp.counters = s.mgp.counters ∧
      (s.setRecords rs).mgp.divergedMask = s.mgp.divergedMask ∧
      (s.setRecords rs).mgp.enableMask = s.mgp.enableMask ∧ (s.setRecords rs).mgp.response = s.mgp.response ∧
      (s.setRecords rs).mgp.miso = s.mgp.miso ∧ (s.setRecords rs).mgp.misoTail = s.mgp.misoTail := by
  unfold State.setRecords
  dsimp only
  split
  · exact State.evalMarks_keeps { s with jnl := { s.jnl with records := rs } }
  · exact ⟨rfl, rfl, rfl, rfl, rfl, rfl, rfl⟩

/-- An evaluation of the water marks reads the journal and the events alone. -/
theorem State.evalMarks_frame (s t : State) (hj : t.jnl = s.jnl) (hm : t.mgp = s.mgp) :
    t.evalMarks = { t with jnl := s.evalMarks.jnl, mgp := s.evalMarks.mgp } := by
  unfold State.evalMarks
  rw [hj]
  split
  · simp [State.raise, hm]
  · split
    · simp [State.raise, hm]
    · rw [← hj, ← hm]

/-- Replacing the record list reads the journal and the events alone. -/
theorem State.setRecords_frame (rs : List Record) (s t : State) (hj : t.jnl = s.jnl) (hm : t.mgp = s.mgp) :
    t.setRecords rs = { t with jnl := (s.setRecords rs).jnl, mgp := (s.setRecords rs).mgp } := by
  simp only [State.setRecords, hj]
  split
  · exact State.evalMarks_frame { s with jnl := { s.jnl with records := rs } }
      { t with jnl := { s.jnl with records := rs } } rfl hm
  · simp only [← hm]

/-- Appending a record reads the journal and the events alone (R43, R46). -/
theorem State.appendRecord_frame (r : Record) (s t : State) (hj : t.jnl = s.jnl) (hm : t.mgp = s.mgp) :
    t.appendRecord r = { t with jnl := (s.appendRecord r).jnl, mgp := (s.appendRecord r).mgp } := by
  simp only [State.appendRecord, hj]
  rw [State.setRecords_frame _ s t hj hm]

/-- A change that keeps records and bytes evaluates no mark (R41, R59). -/
theorem State.setRecords_same (rs : List Record) (s : State) (hl : rs.length = s.jnl.records.length)
    (hb : recordsBytes rs = s.jnl.bytes) : s.setRecords rs = { s with jnl := { s.jnl with records := rs } } := by
  unfold State.setRecords
  rw [if_neg]
  simp [hl, hb]

/-- The choice of R101 from any point of the scan on. -/
theorem selectRecords_spec (w sent n size : Nat) (l : List Record) :
    let k := selectRecords w sent n size l
    k = l.take k.length ∧ (∀ r ∈ k, r.state = .pending) ∧
      (0 < k.length → n + k.length ≤ Config.frameRecords ∧ sent + n + k.length ≤ w ∧
        size + encodedTotal k + 4 ≤ Config.maxBody) := by
  induction l generalizing n size with
  | nil => simp [selectRecords]
  | cons r rs ih =>
    unfold selectRecords
    split
    · rename_i h
      obtain ⟨hp, hn, hw, hb⟩ := h
      obtain ⟨ht, hs, hk⟩ := ih (n + 1) (size + encodedSize r)
      refine ⟨by simpa using ht, ?_, fun _ => ?_⟩
      · intro q hq
        rcases List.mem_cons.1 hq with rfl | hq
        · exact hp
        · exact hs q hq
      · simp only [List.length_cons, encodedTotal, List.map_cons, List.sum_cons] at hk ⊢
        rcases Nat.eq_zero_or_pos (selectRecords w sent (n + 1) (size + encodedSize r) rs).length with hz | hz
        · rw [List.length_eq_zero_iff.1 hz]
          simp only [List.length_nil, List.map_nil, List.sum_nil]
          omega
        · have := hk hz
          omega
    · simp

/-- A take keeps the number of records. -/
theorem takeRecords_length (now sent k : Nat) (rs : List Record) : (takeRecords now sent k rs).length = rs.length := by
  unfold takeRecords
  simp
  omega

/-- A take keeps every record's seq, kind, length and data, so the journal's bytes. -/
theorem takeRecords_bytes (now sent k : Nat) (rs : List Record) :
    recordsBytes (takeRecords now sent k rs) = recordsBytes rs := by
  have h : (fun r : Record => ceil16 r.length) ∘ Record.take now = fun r => ceil16 r.length := rfl
  have hd : rs.drop (sent + k) = (rs.drop sent).drop k := by rw [List.drop_drop]
  unfold recordsBytes takeRecords
  rw [List.map_append, List.map_append, List.map_map, h, ← List.map_append, ← List.map_append, List.append_assoc, hd,
    List.take_append_drop, List.take_append_drop]

/-! ### The hold table (R64) -/

/-- While every hold waits, no response is formed. -/
theorem State.formResponses_waiting (s : State) (h : ∀ k ∈ s.hld.holds, k.verdict = none) : s.formResponses = s := by
  have hr : s.hld.holds.filterMap Hold.response = [] := by
    rw [List.filterMap_eq_nil_iff]
    intro k hk
    simp [Hold.response, h k hk]
  have hf : (s.hld.holds.filter fun k => k.verdict.isNone) = s.hld.holds := by
    rw [List.filter_eq_self]
    intro k hk
    simp [h k hk]
  simp [State.formResponses, hr, hf]

/-- After responses are formed every hold left waits. -/
theorem State.formResponses_verdict (s : State) : ∀ k ∈ s.formResponses.hld.holds, k.verdict = none := by
  intro k hk
  have := (List.mem_filter.1 hk).2
  simpa using this

/-! ### The port (R24, R25) -/

/-- A free internal tag is at no outstanding entry. -/
theorem Dnp.tagFree_iff (d : Dnp) (itag : ITag) : d.tagFree itag = true ↔ ∀ e ∈ d.outstanding, e.itag ≠ itag := by
  simp [Dnp.tagFree]

/-- The arbiter grants a requester that is ready (R25). -/
theorem State.arbiter_ready (s : State) (q : Requester) (h : s.arbiter = some q) : s.ready q = true := by
  unfold State.arbiter at h
  dsimp only at h
  split at h
  · rename_i hr; cases h; exact hr
  · split at h
    · rename_i hr; cases h; exact hr
    · split at h
      · rename_i hr; cases h; exact hr
      · cases h

/-- The head granted to UP is well formed and not in STALL (R21, R25). -/
theorem State.arbiter_up (s : State) (h : s.arbiter = some .up) :
    ∃ r rest, s.upi.intake = r :: rest ∧ malformed r = false ∧ s.stallOf r = none := by
  have hr := s.arbiter_ready .up h
  simp only [State.ready, State.upReady] at hr
  cases hi : s.upi.intake with
  | nil => simp [hi] at hr
  | cons r rest =>
    have : s.stallRegion = s.stallOf r := by simp [State.stallRegion, hi]
    rw [hi] at hr
    refine ⟨r, rest, rfl, ?_, ?_⟩ <;> simp_all

/-! ### The link (R156, R162) -/

/-- What a cause does to a link in UP or TRAINING (R94, R105, R137, R156, R165). -/
theorem State.goDown_joined (c : DownCause) (s : State) (h : s.lnc.link.joined = true) :
    s.goDown c = { s with
      ftx := ⟨none, none⟩
      frx := { s.frx with rx := none }
      lnc := { s.lnc with
        link := s.lnc.fallen s.now
        lastCause := some c
        fresh := s.lnc.fresh || s.lnc.unconfirmed
        unconfirmed := false }
      mgp := s.mgp.raise .linkDown } := by
  simp [State.goDown, h, State.dropLine, State.raise]

/-- A cause leaves a link in DOWN or DISABLED alone (R156). -/
theorem State.goDown_apart (c : DownCause) (s : State) (h : s.lnc.link.joined = false) : s.goDown c = s := by
  simp [State.goDown, h]

/-- A pass over a list keeps what each of its steps keeps. -/
theorem foldl_keeps {α β : Type} (f : State → α → State) (g : State → β) (h : ∀ t a, g (f t a) = g t) (l : List α)
    (s : State) : g (l.foldl f s) = g s := by
  induction l generalizing s with
  | nil => rfl
  | cons a l ih => rw [List.foldl_cons, ih, h]

@[simp] theorem State.holdsNew_lnc (s : State) : s.holdsNew.lnc = s.lnc :=
  foldl_keeps (fun t (h : Hold) => t.expireHold h.tag) State.lnc (fun t h => State.expireHold_lnc h.tag t) _ s
@[simp] theorem State.regionsNewStep1_lnc (s : State) : s.regionsNewStep1.lnc = s.lnc :=
  foldl_keeps (fun t r => t.diverge r) State.lnc (fun t r => State.diverge_lnc r t) _ s
@[simp] theorem State.regionsNewStep2_lnc (s : State) : s.regionsNewStep2.lnc = s.lnc :=
  foldl_keeps (fun t r => t.autoResync r) State.lnc (fun t r => State.autoResync_lnc r t) _ s

/-- A session decision clears FRESH and leaves the rest of LNC alone (R162). -/
theorem State.applySession_lnc (d : Decision) (e : Seq) (s : State) :
    (s.applySession d e).lnc = { s.lnc with fresh := false } := by
  cases d <;> simp [State.applySession, State.blocksNew]

/-! ### The line's return to idle (R117) -/

/-- The line's return to idle in LISTEN starts the silence timer again. -/
theorem State.lineReturns_listen (s : State) (u : Turn) (hl : s.lnc.link = .up u) (hs : u.sub = .listen) :
    s.lineReturns = { s with
      lnc := { s.lnc with
        lineBusy := false
        lineMet := false
        link := .up { u with guard := none, dwell := none, silence := .running ⟨s.now, s.lnc.params.silence⟩ } }
      frx := { s.frx with rx := none } } := by
  simp [State.lineReturns, State.lineReleased, State.restartSilence, State.setLink, Turn.toListen, hl, hs]

/-- Outside UP the line's return to idle ends the reception and nothing more. -/
theorem State.lineReturns_apart (s : State) (h : s.linkUp = false) :
    s.lineReturns = { s with
      lnc := { s.lnc with lineBusy := false, lineMet := false }, frx := { s.frx with rx := none } } := by
  unfold State.linkUp at h
  cases hl : s.lnc.link <;> simp [hl] at h <;> simp [State.lineReturns, State.lineReleased, State.restartSilence, hl]

/-- A frame's end outside RESET is an event (R130). -/
theorem execFrameEnd_event (rest : List Byte) (s : State) (h : s.inReset = false) :
    execFrameEnd rest s = .next (s.event (State.receiveEnd rest)) := by
  simp [execFrameEnd, h]

/-! ### Reactions -/

/-- Nothing is accepted while the presented request cannot be (R19). -/
theorem Upi.acceptFrom_blocked (u : Upi) (r : UpRequest) (rs : List UpRequest) (h : u.accepts r = false) :
    u.acceptFrom (r :: rs) = { u with presented := r :: rs } := by
  simp [Upi.acceptFrom, h]

/-- Acceptance touches the presented requests, the intake queue and the tags in flight only. -/
theorem Upi.acceptFrom_keeps (l : List UpRequest) (u : Upi) :
    (u.acceptFrom l).responses = u.responses ∧ (u.acceptFrom l).sent = u.sent ∧
      (u.acceptFrom l).hostReset = u.hostReset ∧ (u.acceptFrom l).stall = u.stall := by
  induction l generalizing u with
  | nil => exact ⟨rfl, rfl, rfl, rfl⟩
  | cons r l ih =>
    simp only [Upi.acceptFrom]
    split
    · exact ih (u.accept r)
    · exact ⟨rfl, rfl, rfl, rfl⟩

/-- Records finished at the issue point touch APL and the events only (R143, R144). -/
theorem finishRun_keeps (n : Nat) (s : State) :
    (finishRun n s).upi = s.upi ∧ (finishRun n s).rgt = s.rgt ∧ (finishRun n s).dnp = s.dnp ∧
      (finishRun n s).jnl = s.jnl ∧ (finishRun n s).hld = s.hld ∧ (finishRun n s).swp = s.swp ∧
      (finishRun n s).ftx = s.ftx ∧ (finishRun n s).lnc = s.lnc ∧ (finishRun n s).frx = s.frx ∧
      (finishRun n s).now = s.now ∧ (finishRun n s).inReset = s.inReset ∧ (finishRun n s).pending = s.pending := by
  induction n generalizing s with
  | zero => simp [finishRun]
  | succ n ih => simp [finishRun, ih]

@[simp] theorem State.applyRun_upi (s : State) : s.applyRun.upi = s.upi := (finishRun_keeps _ s).1
@[simp] theorem State.applyRun_rgt (s : State) : s.applyRun.rgt = s.rgt := (finishRun_keeps _ s).2.1
@[simp] theorem State.applyRun_dnp (s : State) : s.applyRun.dnp = s.dnp := (finishRun_keeps _ s).2.2.1
@[simp] theorem State.applyRun_jnl (s : State) : s.applyRun.jnl = s.jnl := (finishRun_keeps _ s).2.2.2.1
@[simp] theorem State.applyRun_hld (s : State) : s.applyRun.hld = s.hld := (finishRun_keeps _ s).2.2.2.2.1
@[simp] theorem State.applyRun_swp (s : State) : s.applyRun.swp = s.swp := (finishRun_keeps _ s).2.2.2.2.2.1
@[simp] theorem State.applyRun_ftx (s : State) : s.applyRun.ftx = s.ftx := (finishRun_keeps _ s).2.2.2.2.2.2.1
@[simp] theorem State.applyRun_lnc (s : State) : s.applyRun.lnc = s.lnc := (finishRun_keeps _ s).2.2.2.2.2.2.2.1
@[simp] theorem State.applyRun_frx (s : State) : s.applyRun.frx = s.frx := (finishRun_keeps _ s).2.2.2.2.2.2.2.2.1
@[simp] theorem State.applyRun_now (s : State) : s.applyRun.now = s.now :=
  (finishRun_keeps _ s).2.2.2.2.2.2.2.2.2.1
@[simp] theorem State.applyRun_inReset (s : State) : s.applyRun.inReset = s.inReset :=
  (finishRun_keeps _ s).2.2.2.2.2.2.2.2.2.2.1
@[simp] theorem State.applyRun_pending (s : State) : s.applyRun.pending = s.pending :=
  (finishRun_keeps _ s).2.2.2.2.2.2.2.2.2.2.2

/-! ### The management port (R167 to R169) -/

/-- A transaction without a fall of MG_CSN executes nothing (R167). -/
theorem State.transaction_idle (t : Transaction) (len : Nat) (run : List Byte → State → Verdict) (s : State)
    (h : t.fell = false) : s.transaction t len run = s := by
  simp [State.transaction, h]

/-- A payload of the wrong length is answered BAD_LENGTH (R169). -/
theorem State.transaction_badLength (t : Transaction) (len : Nat) (run : List Byte → State → Verdict) (s : State)
    (hr : s.inReset = false) (hf : t.fell = true) (hp : payloadOf len t.bytes = none) :
    s.transaction t len run = (s.shiftOut (t.bytes.length + 1) t.tail.length).answer .badLength [] := by
  simp [State.transaction, hr, hf, hp]

/-- A request whose length is right comes to its verdict (R169). -/
theorem State.transaction_runs (t : Transaction) (len : Nat) (run : List Byte → State → Verdict) (s : State)
    (p : List Byte) (hr : s.inReset = false) (hf : t.fell = true) (hp : payloadOf len t.bytes = some p) :
    s.transaction t len run =
      match run p (s.shiftOut (t.bytes.length + 1) t.tail.length) with
      | .refused st => (s.shiftOut (t.bytes.length + 1) t.tail.length).answer st []
      | .answered payload v => v.answer .ok payload
      | .acted v => (v.answer .ok []).settle := by
  simp only [State.transaction, hr, hf, hp]
  cases run p (s.shiftOut (t.bytes.length + 1) t.tail.length) <;> rfl

/-- A payload is the bytes after the length byte when both lengths are right (R169). -/
theorem payloadOf_eq (len : Nat) (l : Byte) (p : List Byte) (hl : l.toNat = len) (hp : p.length = len) :
    payloadOf len (l :: p) = some p := by
  simp [payloadOf, hl, hp]

end Sys2Proof.Machine
end

