-- ==== Sys2Proof/Tests/Slice0.lean ====
section
/-! SUPPORT. Small tests: the checks of WellFormed, known answers of the formats, a command or two on small states,
and for every statement with hypotheses a state and operands that meet them together. -/

namespace Sys2Proof.Tests

open Sys2Proof Sys2Proof.Machine

/-! ### Small states -/

/-- The state a command leaves. -/
def after (c : Instr) (s : State) : State :=
  match exec c s with
  | .next t => t
  | .fault _ => s
  | .refused _ => s

/-- A SOURCE region over pages 0 to 3, mapped 512 pages up. -/
def src : RegionFields := { RegionFields.afterReset with size := 4, displacement := 512 }

/-- A TARGET region over pages 0 to 3. -/
def tgt : RegionFields := { src with direction := .target }

/-- Region 0 loaded and put in a state. -/
def at0 (f : RegionFields) (st : RegionState) (s : State) : State := s.setRegion 0 ⟨f, st, 0, 0, 0⟩

/-- The intake queue holds one request. -/
def headed (r : UpRequest) (s : State) : State := { s with upi := { s.upi with intake := [r], inFlight := [r.tag] } }

/-- A 16-byte write at 0x40. -/
def wr : UpRequest := ⟨0x40, 3, .write (List.replicate 16 (0xAA, true))⟩

/-- A 4-byte read at 0x40. -/
def rd : UpRequest := ⟨0x40, 3, .read 4⟩

/-- A write with no byte enabled. -/
def wr0 : UpRequest := ⟨0x40, 3, .write (List.replicate 16 (0xAA, false))⟩

/-- A PENDING record of region 0 with a seq and 16 bytes at 0x40. -/
def rec0 (q : Seq) : Record :=
  ⟨q, .write, 0, 0x40, 0x200040, 16, none, List.replicate 16 0xAA, .pending, 0, none, false⟩

/-- The journal holds these records, numbered up to next seq. -/
def journalled (rs : List Record) (next : Seq) (s : State) : State :=
  { s with jnl := { s.jnl with records := rs, nextSeq := next } }

/-- A journal whose data space is full. -/
def full (s : State) : State := journalled (List.replicate 512 { rec0 0 with length := 256, data := [] }) 512 s

/-- The link is UP with a turn state. -/
def up (u : Turn) (s : State) : State := s.setLink (.up u)

/-- HOLD at the start of a turn. -/
def hold : Turn := { Turn.fresh with sub := .hold }

/-- LISTEN while a peer frame is on the line. -/
def held : Turn := { Turn.fresh with silence := .held }

/-- One outstanding transaction with internal tag 7. -/
def outstanding (o : Owner) (ab : Bool) (s : State) : State :=
  { s with dnp := { s.dnp with outstanding := [⟨7, o, ab⟩] } }

/-- One hold with tag 3 for seq 0 of region 0. -/
def holding (a : TimeoutAction) (l : Option BusStatus) (s : State) : State :=
  { s with hld := ⟨[⟨3, 0, 0, a, l, .openHold, 50⟩]⟩ }

/-- A received record in the apply queue. -/
def queued (s : State) : State :=
  { s with
    apl := { s.apl with queue := [⟨0, .write, 0x40, 1, none, [9], .waiting⟩] }
    frx := { s.frx with expected := 1 } }

/-- A VOID record and a record of no region wait at the issue point. -/
def unfinished (s : State) : State :=
  { s with
    apl := { s.apl with queue := [⟨0, .void, 0, 0, none, [], .waiting⟩, ⟨1, .write, 0x40, 1, none, [9], .waiting⟩] }
    frx := { s.frx with expected := 2 } }

/-- The engine reads region 0, its first chunk having seq 0. -/
def reading (s : State) : State := { s with swp := ⟨[], .reading ⟨0, 256, 16384, [0], none⟩⟩ }

/-- This node drives a frame. -/
def driving (t : FrameType) (turn nak reply : Bool) (s : State) : State :=
  { s with ftx := ⟨if nak then some .gap else none, some ⟨t, turn, nak, reply, 5, [0xD3, 0x5C]⟩⟩ }

/-- A peer frame is on the line. -/
def hearing (rx : Reception) (s : State) : State :=
  { s with lnc := { s.lnc with lineBusy := true }, frx := { s.frx with rx := some rx } }

/-- A training context. -/
def training (p : Phase) : Training :=
  ⟨p, some ⟨3, 64⟩, some ⟨3, 200⟩, ⟨0, 20000⟩, some 0, some .resume, none⟩

/-- A header of a type. -/
def head (ty : Option FrameType) : Header := ⟨ty, true, false, false, false, 0, none, 1, 0, 0, 0⟩

/-- A port transaction of a payload with its length byte. -/
def txn (bytes : List Byte) : Transaction := ⟨true, bytes, []⟩

/-- A record on the line. -/
def wire0 : WireRecord := ⟨.write, 0x40, 1, none, [9]⟩

/-- The body of a DATA frame with one record. -/
def body0 : List Byte := buildBody 0 (encodeRecord wire0)

/-- The body of a HELLO from a role. -/
def helloBody (r : Role) : List Byte := buildBody 0 (encodeHello ⟨r, 0, 0, 0, 512⟩)

/-! ### WellFormed refuses -/

theorem test_short_header_is_ill_formed : (Instr.headerReceived [1, 2, 3]).wellFormed = false := by decide
theorem test_whole_byte_tail_is_ill_formed :
    (Instr.nop ⟨true, [0], List.replicate 8 true⟩).wellFormed = false := by decide
theorem test_defined_code_is_no_undefined_request :
    (Instr.undefinedRequest (txn [0x50, 1])).wellFormed = false := by decide
theorem test_undefined_code_is_well_formed : (Instr.undefinedRequest (txn [0x77])).wellFormed = true := by decide

/-! ### Formats and arithmetic of the spec -/

/-- The check value of the header CRC over the nine digits. -/
theorem test_crc16_known_answer : crc16 [0x31, 0x32, 0x33, 0x34, 0x35, 0x36, 0x37, 0x38, 0x39] = 0x29B1 := by decide +kernel
/-- The check value of the body CRC over the nine digits. -/
theorem test_crc32_known_answer : crc32 [0x31, 0x32, 0x33, 0x34, 0x35, 0x36, 0x37, 0x38, 0x39] = 0xFC891918 := by
  decide +kernel
/-- R4's worked address: 0x100_0040 with displacement +512 is 0x120_0040. -/
theorem test_remote_address : remoteOf 0x1000040 512 = 0x1200040 := by decide
theorem test_remote_address_downwards : remoteOf 0x1200040 (-512) = 0x1000040 := by decide
theorem test_seq_comparison_wraps : precedes 0xFFFFFFFF 0 = true ∧ precedes 0 0xFFFFFFFF = false := by decide
theorem test_seq_half_way_is_neither : precedes 0 0x80000000 = false ∧ precedes 0x80000000 0 = false := by decide
theorem test_body_classes : (lengthClassFor 128, lengthClassFor 129, lengthClassFor 4096) = (0, 1, 5) := by decide
theorem test_mask_bytes_bit_7_first : maskBytes [true, false, false, false, false, false, false, false, true] =
    [0x80, 0x80] := by decide
theorem test_flags_bit_0_of_second_byte : (flagsOf [0x01, 0x80]).toList =
    [false, false, false, false, false, false, false, true, true, false, false, false, false, false, false, false] := by
  decide
theorem test_page_crossing_is_malformed :
    malformed ⟨0xFF8, 0, .read 9⟩ = true ∧ malformed ⟨0xFF8, 0, .read 8⟩ = false ∧ malformed ⟨0, 0, .read 0⟩ = true ∧
      malformed ⟨0, 0, .read 257⟩ = true := by decide
theorem test_no_table_word_is_a_command : decodeTableWord 8 1 = none := by decide
theorem test_code_0x23_is_link_renew : decodeTransaction true [] [0x23, 0] = .linkRenew (txn [0]) := by decide
theorem test_record_header_bytes : encodeRecord wire0 = [0x10, 0x00, 0, 0, 0, 0, 0x40, 0, 9] := by decide

/-! ### Commands on small states -/

theorem test_request_is_accepted : (after (.upstreamRequest wr) State.reset).upi.intake = [wr] := by decide
theorem test_request_with_a_tag_in_flight_waits :
    (after (.upstreamRequest rd) (headed wr State.reset)).upi.presented = [rd] := by decide
theorem test_malformed_read_is_answered_fault :
    (after .malformedHead (headed ⟨0xFFF, 3, .read 2⟩ State.reset)).upi.responses = [⟨3, .fault, [0, 0]⟩] := by decide
theorem test_up_grant_captures :
    (after (.upGrant 7) (headed wr (at0 src .active State.reset))).jnl.records = [{ rec0 0 with isOpen := true }] := by
  decide
theorem test_next_write_is_coalesced :
    (after (.upGrant 7) (headed { wr with address := 0x50 }
      (journalled [{ rec0 0 with isOpen := true }] 1 (at0 src .active State.reset)))).jnl.records.map Record.length =
      [32] := by decide
theorem test_apl_grant_writes : (after (.aplGrant 7) (queued (at0 tgt .active State.reset))).dnp.issued =
    some ⟨7, 0x40, .write [(9, true)]⟩ := by decide
theorem test_swp_grant_reads : (after (.swpGrant 7) (up hold (reading (at0 src .resyncing State.reset)))).dnp.issued =
    some ⟨7, 256, .read 256⟩ := by decide
theorem test_upstream_response_frees_the_tag :
    (after (.upstreamResponse 3) { State.reset with
      upi := { State.reset.upi with inFlight := [3], responses := [⟨3, .okay, []⟩] } }).upi.inFlight = [] := by decide
theorem test_host_bus_reset_is_reported :
    (after .hostBusReset State.reset).mgp.events[EventKind.hostReset.ix] = ⟨true, 1⟩ := by decide
theorem test_reset_release_starts_the_timebase :
    (after .resetRelease { State.reset with inReset := true, now := 9 }).now = 0 := by decide
theorem test_degrade_makes_the_region_async :
    ((after (.holdDeadlineExpiry 3) (holding .degrade (some .okay)
      (at0 { src with mode := .sync } .active State.reset))).region 0).fields.mode = .async := by decide
theorem test_frame_opportunity_takes_the_record :
    (after .frameOpportunity (up hold (journalled [rec0 0] 1 State.reset))).jnl.records.map Record.state = [.sent] := by
  decide
theorem test_fourth_collision_takes_the_link_down :
    (after .collision (driving .ctrl true false false (up { hold with collisions := 3 } State.reset))).lnc.lastCause =
      some .collisions := by decide
theorem test_link_enable_starts_a_hello :
    ((after (.linkEnable (txn [0])) State.reset).ftx.frame.map fun f => (f.type, f.bytes.length)) =
      some (.hello, 150) := by decide +kernel
theorem test_nop_after_ident_shifts_it_out :
    ((after (.nop (txn [0, 0, 0])) (after (.portIdent (txn [0])) State.reset)).mgp.miso) =
      [0x00, 0x10, 0x10, 0x18] := by decide
theorem test_region_set_past_the_top_is_bad_value :
    (after (.regionSet (txn (21 :: 0 :: encodeFields { src with basePage := 2 ^ 28 - 1 }))) State.reset).mgp.response =
      ⟨.badValue, []⟩ := by decide
theorem test_region_enable_overlap :
    (after (.regionEnable (txn [1, 1])) (at0 src .active State.reset)).mgp.response = ⟨.overlap, []⟩ := by decide
theorem test_region_query_length :
    (after (.regionQuery (txn [1, 0])) State.reset).mgp.response.payload.length = 28 := by decide
theorem test_link_query_length : (after (.linkQuery (txn [0])) State.reset).mgp.response.payload.length = 45 := by
  decide
theorem test_journal_query_length :
    (after (.journalQuery (txn [0])) State.reset).mgp.response.payload.length = 34 := by decide
theorem test_event_query_length : (after (.eventQuery (txn [0])) State.reset).mgp.response.payload.length = 23 := by
  decide +kernel
theorem test_event_ack_length :
    (after (.eventAck (txn [2, 0, 1])) State.reset).mgp.response.payload.length = 20 := by decide +kernel
theorem test_counter_query_length :
    (after (.counterQuery (txn [1, 0x1F])) State.reset).mgp.response.payload.length = 5 := by decide
theorem test_undefined_code_is_bad_code :
    (after (.undefinedRequest (txn [0x77, 0])) State.reset).mgp.response = ⟨.badCode, []⟩ := by decide

/-- A secondary that has collided listens; the end of the frame that met its own starts the silence timer again. -/
theorem test_end_of_an_unheard_frame_restarts_silence :
    ((after (.frameEnd []) { up { Turn.fresh with silence := .running ⟨0, 100⟩, collisions := 1 } State.reset with
      now := 7 }).lnc.link) = .up { Turn.fresh with silence := .running ⟨7, 100⟩, collisions := 1 } := by decide
/-- VOID and unmapped records are finished at issue, and A moves over them. -/
theorem test_settle_finishes_void_and_unmapped :
    let t := (unfinished State.reset).settle
    (t.apl.applied, t.apl.issue, t.apl.queue.length) = (2, 2, 0) ∧
      t.mgp.counters[DevCounter.unmapped.ix] = 1 ∧ t.mgp.events[EventKind.applyUnmapped.ix] = ⟨true, 1⟩ := by decide
/-- After the fourth collision, with a retrain delay of 0, the HELLO waits for the peer frame's end (R159). -/
theorem test_hello_waits_for_a_frame_met_in_a_collision :
    let s := driving .ctrl true false false (up { hold with collisions := 3 } State.reset)
    let t := after .collision { s with lnc := { s.lnc with params := { s.lnc.params with retrainDelay := 0 } } }
    t.lnc.link.joined = true ∧ t.ftx.frame = none ∧
      ((after (.frameEnd []) t).ftx.frame.map TxFrame.type) = some .hello := by decide +kernel
/-- A NEW decision waives the OPEN hold behind a DEGRADE and fails the one before it (R72). -/
theorem test_new_session_resolves_holds_in_order :
    let s := { State.reset with hld := ⟨[⟨3, 0, 0, .fail, some .okay, .openHold, 9⟩,
      ⟨4, 0, 1, .degrade, none, .openHold, 5⟩, ⟨5, 0, 2, .fail, some .okay, .openHold, 4⟩]⟩ }
    let t := s.applySession .newSession 0
    t.hld.holds = [⟨4, 0, 1, .degrade, none, .waived, 5⟩] ∧ (t.region 0).fields.mode = .async ∧
      t.upi.responses = [⟨5, .fault, []⟩, ⟨3, .okay, []⟩] ∧ t.mgp.counters[DevCounter.syncTimeouts.ix] = 2 := by
  decide +kernel
theorem test_zero_retrain_delay_goes_on_to_training :
    let s := up hold State.reset
    let t := { s with lnc := { s.lnc with params := { s.lnc.params with retrainDelay := 0, role := .secondary } } }
    (after (.linkRenew (txn [0])) t).lnc.link =
      .training ⟨.waiting, none, none, ⟨0, 20000⟩, none, none, none⟩ := by decide +kernel

/-! ### The hypotheses of the statements can be met -/

theorem test_hyp_reset : State.reset.pending = [] ∧ State.reset.inReset = false ∧
    State.reset.resetAsserted.inReset = true ∧ State.reset.upi.hostReset = false := by decide
theorem test_hyp_settle_nothing_due :
    (∀ r rs, State.reset.upi.presented = r :: rs → State.reset.upi.accepts r = false) ∧
    State.reset.stallLaw = true ∧ State.reset.classifyIssue ≠ .void ∧ State.reset.classifyIssue ≠ .unmapped ∧
    (∀ r rs, State.reset.apl.queue = r :: rs → r.state ≠ .done) ∧ State.reset.swp.queue = [] ∧
    (∀ u, State.reset.lnc.link = .up u → u.sub = .hold → u.dwell ≠ none → State.reset.somethingToSend = false) ∧
    (∀ t, State.reset.lnc.link = .training t → t.want = none ∨ State.reset.lineIdle = false) :=
  ⟨fun _ _ h => (List.cons_ne_nil _ _ h.symm).elim, by decide, by decide, by decide,
    fun _ _ h => (List.cons_ne_nil _ _ h.symm).elim, rfl, fun _ h => Link.noConfusion h,
    fun _ h => Link.noConfusion h⟩
theorem test_hyp_settle_reactions :
    let s := unfinished State.reset
    let w := { up hold State.reset with swp := ⟨[3, 5], .idle⟩ }
    let d := up { hold with dwell := some ⟨0, 20⟩ } (journalled [rec0 0] 1 State.reset)
    (s.applyLaw = true ∧ s.lookupTarget 0x40 = none ∧ (queued (at0 tgt .active State.reset)).applyLaw = true) ∧
      (w.swp.engine = .idle ∧ w.swp.queue = [3, 5] ∧ w.linkUp = true ∧ State.reset.linkUp = false) ∧
      d.somethingToSend = true ∧ (up { hold with dwell := some ⟨0, 20⟩ } State.reset).somethingToSend = false := by
  decide
theorem test_hyp_lookups :
    let s := at0 tgt .active State.reset
    s.rgt.disjoint = true ∧ s.rgt.targetStates = true ∧ s.lookup 0 = some 0 ∧ s.lookup 3 = some 0 ∧
      s.lookup 4 = none ∧ s.lookupTarget 0x3FFF = some 0 ∧ s.lookupTarget 0x4000 = none ∧
      (at0 src .active State.reset).lookupTarget 0x40 = none ∧ s.lookup (pageOf 0x3FFF) = some 0 := by decide
theorem test_hyp_space_tests :
    let j := (journalled [{ rec0 0 with isOpen := true }] 1 State.reset).jnl
    let w := List.replicate 16 ((0xAA : Byte), true)
    j.coalesceInto 0 0x50 0x200050 w = some { rec0 0 with isOpen := true } ∧
      j.coalesceInto 0 0x51 0x200051 w = none ∧ j.captureFits 0 0x51 0x200051 w = true := by decide
theorem test_hyp_water_marks :
    let s := { State.reset with jnl := { State.reset.jnl with highMark := 1, lowMark := 0 } }
    let t := { s with jnl := { s.jnl with latch := true } }
    (s.jnl.latch = false ∧ s.jnl.occupancy < s.jnl.highMark) ∧
      (t.jnl.latch = true ∧ t.jnl.occupancy ≤ t.jnl.lowMark) ∧
      (let u := journalled (List.replicate 21 (rec0 0)) 21 s
       u.jnl.highMark ≤ u.jnl.occupancy ∧ u.jnl.lowMark < u.jnl.occupancy) := by decide
theorem test_hyp_request_accepted : State.reset.upi.presented = [] ∧ State.reset.upi.intake.length < 8 ∧
    wr.tag ∉ State.reset.upi.inFlight := by decide
theorem test_hyp_request_waits :
    let s := { headed wr State.reset with upi := { (headed wr State.reset).upi with presented := [rd] } }
    s.upi.presented = [rd] ∧ rd.tag ∈ s.upi.inFlight ∧ (headed wr State.reset).upi.presented = [] ∧
      8 ≤ ({ State.reset.upi with intake := List.replicate 8 wr } : Upi).intake.length := by decide
theorem test_hyp_malformed_and_well_formed_head : malformed ⟨0xFFF, 3, .read 2⟩ = true ∧ malformed wr = false := by
  decide
theorem test_hyp_grant_read_outside_and_unenabled :
    let s := at0 src .active State.reset
    (headed rd s).arbiter = some .up ∧ (headed rd s).dnp.tagFree 0 = true ∧
      (headed { wr with address := 0x4000 } s).arbiter = some .up ∧
      (headed { wr with address := 0x4000 } s).lookup (pageOf 0x4000) = none ∧
      (headed wr0 s).arbiter = some .up ∧ (headed wr0 s).lookup (pageOf 0x40) = some 0 ∧
      (headed wr0 s).upi.intake = [wr0] := by decide
theorem test_hyp_grant_uncaptured_sync :
    let s := headed wr (at0 { src with mode := .sync } .diverged State.reset)
    s.arbiter = some .up ∧ s.lookup (pageOf wr.address) = some 0 ∧ (s.region 0).state = .diverged ∧
      (s.region 0).fields.direction = .source := by decide
theorem test_hyp_grant_captures :
    let s := headed wr (at0 src .resyncing State.reset)
    let t := headed { wr with address := 0x50 } (journalled [{ rec0 0 with isOpen := true }] 1 s)
    (s.arbiter = some .up ∧ s.dnp.tagFree 47 = true ∧ s.lookup (pageOf wr.address) = some 0 ∧
      s.jnl.captureFits 0 wr.address 0x200040 (List.replicate 16 (0xAA, true)) = true) ∧
    t.arbiter = some .up ∧ (t.jnl.coalesceInto 0 0x50 0x200050 (List.replicate 16 (0xAA, true))).isSome ∧
      t.jnl.captureFits 0 0x50 0x200050 (List.replicate 16 (0xAA, true)) = true := by decide
theorem test_hyp_grant_without_space :
    let s := headed wr (full (at0 { src with fullPolicy := .drop } .active State.reset))
    s.arbiter = some .up ∧ s.lookup (pageOf wr.address) = some 0 ∧ (s.region 0).capturing = true ∧
      s.jnl.captureFits 0 wr.address 0x200040 (List.replicate 16 (0xAA, true)) = false := by decide +kernel
theorem test_hyp_grant_stray :
    let s := headed wr (at0 tgt .active State.reset)
    let t := headed wr (at0 { tgt with stray := .reject } .active State.reset)
    (s.arbiter = some .up ∧ s.lookup (pageOf wr.address) = some 0 ∧ (s.region 0).fields.stray = .pass) ∧
      t.arbiter = some .up ∧ (t.region 0).fields.stray = .reject := by decide
theorem test_hyp_apl_grant :
    let s := queued (at0 tgt .active State.reset)
    s.arbiter = some .apl ∧ s.dnp.tagFree 0 = true ∧
      s.classifyIssue = .mapped ⟨0, .write, 0x40, 1, none, [9], .waiting⟩ 0 := by decide
theorem test_hyp_swp_grant :
    let s := up hold (reading (at0 src .resyncing State.reset))
    s.arbiter = some .swp ∧ s.dnp.tagFree 0 = true ∧ s.swp.engine = .reading ⟨0, 256, 16384, [0], none⟩ := by decide
theorem test_hyp_response_to_up : ∀ path ∈ [UpPath.read 4, .plain, .captured false, .uncapturedSync .fail],
    (outstanding (.up 3 path) false State.reset).dnp.outstanding.find? (fun e => decide (e.itag = 7)) =
      some ⟨7, .up 3 path, false⟩ := by decide
theorem test_hyp_response_to_a_hold :
    let s := holding .fail none (outstanding (.up 3 (.captured true)) false State.reset)
    s.dnp.outstanding.find? (fun e => decide (e.itag = 7)) = some ⟨7, .up 3 (.captured true), false⟩ ∧
      ∀ h ∈ s.hld.holds, h.verdict = none := by decide
theorem test_hyp_response_to_apl :
    let s := { outstanding (.apl 0) false State.reset with apl := { State.reset.apl with inFlight := [⟨7, 0, 0, false⟩] } }
    s.dnp.outstanding.find? (fun e => decide (e.itag = 7)) = some ⟨7, .apl 0, false⟩ ∧
      s.apl.inFlight.find? (fun e => decide (e.itag = 7)) = some ⟨7, 0, 0, false⟩ := by decide
theorem test_hyp_response_to_none : ∀ e ∈ (outstanding (.apl 0) false State.reset).dnp.outstanding, e.itag ≠ 8 := by
  decide
theorem test_hyp_response_to_swp :
    let s := outstanding (.swp 0) false (reading (at0 src .resyncing State.reset))
    s.dnp.outstanding.find? (fun e => decide (e.itag = 7)) = some ⟨7, .swp 0, false⟩ ∧
      s.swp.engine = .reading ⟨0, 256, 16384, [0], none⟩ ∧ (s.region 0).capturing = true ∧
      (outstanding (.swp 0) true State.reset).dnp.outstanding.find? (fun e => decide (e.itag = 7)) =
        some ⟨7, .swp 0, true⟩ := by decide
theorem test_hyp_response_to_another_read :
    let s := outstanding (.swp 4) false (journalled [sweepRecord 4 0 0x100 0x200100] 5 (reading State.reset))
    s.dnp.outstanding.find? (fun e => decide (e.itag = 7)) = some ⟨7, .swp 4, false⟩ ∧
      (4 : Sys2Proof.Seq) ∉ ([0] : List Sys2Proof.Seq) ∧ (∃ r ∈ s.jnl.records, r.seq = 4 ∧ r.state = .filling) ∧
      (∀ r ∈ (journalled [rec0 4] 5 s).jnl.records, r.seq = 4 → r.state ≠ .filling) := by decide
theorem test_hyp_ready_response :
    let s := { State.reset with upi := { State.reset.upi with inFlight := [3], responses := [⟨3, .okay, []⟩] } }
    (⟨3, .okay, []⟩ : UpResponse) ∈ s.upi.responses ∧ (s.upi.responses.map UpResponse.tag).Nodup := by decide
theorem test_hyp_stall :
    let s := headed wr (full (at0 src .active State.reset))
    s.stallRegion = some 0 ∧ s.upi.stall = none ∧ (headed rd s).stallRegion = none := by decide +kernel
theorem test_hyp_hold_deadline :
    ∀ a ∈ [TimeoutAction.fail, .degrade], ∀ l ∈ [none, some BusStatus.okay],
      let s := holding a l State.reset
      s.holdOf 3 = some ⟨3, 0, 0, a, l, .openHold, 50⟩ ∧ (∀ k ∈ s.hld.holds, k.verdict = none) ∧
        (s.hld.holds.map Hold.tag).Nodup := by decide
theorem test_hyp_hold_deadline_discarded :
    let s := (holding .fail none State.reset).mapHolds fun h => { h with state := .remoteMet }
    s.holdOf 3 = some ⟨3, 0, 0, .fail, none, .remoteMet, 50⟩ ∧ (∀ k ∈ s.hld.holds, k.tag ≠ 4) := by decide
theorem test_hyp_selection_not_empty :
    let s := journalled [rec0 0] 1 State.reset
    s.sendable = true ∧ s.selection.length = 1 ∧ (rec0 0).formed = true := by decide
theorem test_hyp_frame_opportunity :
    let s := up hold (journalled [rec0 0] 1 State.reset)
    s.ftx.frame = none ∧ hold.frames < s.lnc.params.burst ∧ s.sendable = true ∧
      (∀ r ∈ s.selection, r.sendCount < 8) ∧ s.recordsFormed = true := by decide
theorem test_hyp_ctrl_and_retry_limit :
    let s := { up hold State.reset with ftx := ⟨some .gap, none⟩ }
    let t := up hold (journalled [{ rec0 0 with sendCount := 8 }] 1 State.reset)
    (s.sendable = false ∧ s.ftx.pendingNak = some .gap) ∧ t.sendable = true ∧
      (∃ r ∈ t.selection, 8 ≤ r.sendCount) ∧ 0 < t.lnc.params.retrainDelay := by decide
theorem test_hyp_frame_completed :
    (driving .data true true false (up hold State.reset)).lnc.link = .up hold ∧
      (driving .hello false false true (State.reset.setLink (.training (training .replying)))).lnc.link =
        .training (training .replying) ∧
      (driving .start true false false State.reset).ftx.frame =
        some ⟨.start, true, false, false, 5, [0xD3, 0x5C]⟩ := by decide
theorem test_hyp_collision : ∀ n ∈ [0, 3],
    let s := driving .ctrl true false false (up { hold with collisions := n } State.reset)
    s.ftx.frame ≠ none ∧ s.lnc.link = .up { hold with collisions := n } ∧ State.reset.linkUp = false ∧
      (up hold State.reset).ftx.frame = none := by decide
theorem test_hyp_guard_expiry :
    let u : Turn := { Turn.fresh with sub := .guard, guard := some ⟨600, 64⟩ }
    let s := up u (journalled [{ rec0 0 with state := .sent, lastSent := some 100 }] 1 State.reset)
    s.lnc.link = .up u ∧ 100 + s.lnc.params.ackTimeout ≤ max s.now (600 + 64 * 4 / 1000) ∧
      ¬ 101 + s.lnc.params.ackTimeout ≤ max s.now (600 + 64 * 4 / 1000) := by decide
theorem test_hyp_dwell_and_silence :
    let s := up { hold with dwell := some ⟨0, 20⟩ } State.reset
    s.lnc.link = .up { hold with dwell := some ⟨0, 20⟩ } ∧ s.ftx.frame = none ∧ s.ftx.pendingNak = none ∧
      ({ Turn.fresh with silence := .running ⟨0, 100⟩, missed := 2 } : Turn).missed + 1 < 4 ∧
      4 ≤ ({ Turn.fresh with silence := .running ⟨0, 100⟩, missed := 3 } : Turn).missed + 1 := by decide
theorem test_hyp_frame_mark : ∀ l ∈ [Link.disabled, .up hold, .training (training .calling), .down ⟨0, 5⟩],
    (State.reset.setLink l).lnc.lineBusy = false ∧ (State.reset.setLink l).ftx.frame = none := by decide
theorem test_hyp_frame_mark_unheard :
    let s := driving .ctrl true false false (up hold State.reset)
    s.lnc.lineBusy = false ∧ s.ftx.frame ≠ none ∧ (hearing .marked State.reset).lnc.lineBusy = true := by decide
theorem test_hyp_good_header : ∀ ty ∈ [FrameType.data, .ctrl, .hello, .start],
    headerGood (encodeHeader (head (some ty))) = true ∧ (encodeHeader (head (some ty))).length = 20 ∧
      (headerOf (encodeHeader (head (some ty)))).type = some ty := by decide +kernel
theorem test_records_refused_by_their_form :
    let read := fun (first len addr : Byte) (tail : Nat) =>
      parseRecord ([first, len, 0, 0, 0, addr, 0, 0] ++ List.replicate tail 0)
    (read 0x10 0 0 1).isSome = true ∧ (read 0x10 0 0 0) = none ∧ (read 0x10 255 0x0F 256).isSome = true ∧
      (parseRecord ([0x10, 255, 0, 0, 0, 0x0F, 1, 0] ++ List.replicate 256 0)) = none ∧
      (read 0x20 255 0 256).isSome = true ∧ (read 0x20 254 0 256) = none ∧ (read 0x28 255 0 300) = none ∧
      (read 0x30 9 0 0).isSome = true ∧ (read 0x38 0 0 9) = none ∧ (read 0x40 0 0 9) = none ∧
      parseRecord [0x30, 0, 0, 0, 0, 0, 0] = none := by decide +kernel
set_option maxRecDepth 100000 in
theorem test_frames_refused_by_their_header :
    let h := head (some .data)
    (frameRecords h body0).isSome = true ∧ frameRecords { h with count := 65 } body0 = none ∧
      frameRecords { h with count := 0 } body0 = none ∧ frameRecords { h with lengthClass := 6 } body0 = none ∧
      bodyGood 0 (body0.take 127) = false ∧ bodyGood 0 (body0.set 5 1) = false ∧
      headerGood ((encodeHeader h).set 17 1) = false ∧ headerGood ((encodeHeader h).take 19) = false := by
  decide +kernel
theorem test_hyp_mapped_record :
    let s := at0 tgt .active (queued State.reset)
    s.applyLaw = true ∧ s.apl.queue[(s.apl.issue - s.apl.applied).toNat]? =
      some ⟨0, .write, 0x40, 1, none, [9], .waiting⟩ ∧ s.lookupTarget 0x40 = some 0 := by decide +kernel
theorem test_hyp_header_acks :
    let s := hearing .marked (up held (journalled [{ rec0 0 with state := .sent }] 1 State.reset))
    s.frx.rx = some .marked ∧ within 1 s.jnl.oldest s.jnl.sendPoint = true ∧
      within 2 s.jnl.oldest s.jnl.sendPoint = false := by decide
theorem test_hyp_header_meets_a_hold :
    let s := holding .fail (some .okay) (journalled [] 1 State.reset)
    (∀ k ∈ s.hld.holds, k.verdict = none) ∧ (∀ k ∈ s.hld.holds, k.metBy 1 s.jnl.nextSeq = true) ∧
      (∀ k ∈ s.hld.holds, k.metBy 2 s.jnl.nextSeq = false) := by decide
theorem test_hyp_header_completes_a_sweep :
    (⟨0, 256, 256, [], some 4⟩ : SweepCtx).completedBy 5 5 = true ∧
      (⟨0, 256, 256, [], some 4⟩ : SweepCtx).completedBy 4 5 = false := by decide
theorem test_hyp_other_headers :
    headerGood (List.replicate 20 0) = false ∧ (headerOf (encodeHeader (head none))).type = none ∧
      headerGood (encodeHeader (head none)) = true ∧
      (headerOf (encodeHeader { head (some .hello) with reply := true })).reply = true := by decide +kernel
set_option maxRecDepth 100000 in
theorem test_hyp_data_frame_end :
    let s := hearing (.header (head (some .data))) (up held State.reset)
    (s.lnc.lineBusy = true ∧ s.frx.rx = some (.header (head (some .data))) ∧ s.lnc.link = .up held) ∧
      bodyGood 0 [] = false ∧ bodyGood 0 body0 = true ∧ frameRecords (head (some .data)) body0 = some [wire0] ∧
      frameRecords { head (some .data) with count := 0 } body0 = none ∧
      frameRecords { head (some .data) with lengthClass := 6 } body0 = none := by decide +kernel
theorem test_hyp_data_frame_order :
    precedes 0 1 = true ∧ ((2 ^ 31 : Seq) - 0).toNat = 2 ^ 31 ∧
      (atOrBefore 0 1 = true ∧ atOrBefore (0 + 1) 1 = true) ∧ atOrBefore 0 0 = true ∧ atOrBefore (0 + 1) 0 = false ∧
      ¬ (512 + [wire0].length ≤ 512) := by decide
theorem test_hyp_other_frame_ends : ∀ rx ∈ [Reception.header (head (some .ctrl)), .header (head none),
    .header (head (some .hello)), .header (head (some .start)), .badHeader, .marked],
    (hearing rx (up held State.reset)).frx.rx = some rx ∧ (hearing rx (up held State.reset)).lnc.lineBusy = true := by
  decide
theorem test_hyp_unheard_and_unreceived_ends :
    (up Turn.fresh State.reset).lnc.lineBusy = false ∧ Turn.fresh.sub = .listen ∧ hold.sub ≠ .listen ∧
      (up hold State.reset).lineContested.lnc.lineMet = true ∧ (up hold State.reset).lnc.lineMet = false ∧
      (let s := { State.reset with lnc := { State.reset.lnc with lineBusy := true } }
       s.linkUp = false ∧ s.frx.rx = none) := by decide
set_option maxRecDepth 100000 in
theorem test_hyp_ignored_in_training :
    (∀ rx ∈ [Reception.marked, .badHeader, .header (head none), .header (head (some .hello))],
      (hearing rx (State.reset.setLink (.training (training .calling)))).frx.rx = some rx) ∧
      bodyGood 0 [] = false ∧ bodyGood 0 (buildBody 0 []) = true ∧ helloOf (buildBody 0 []) = none ∧
      decisionOf ((buildBody 0 []).getD 0 0) = none := by decide +kernel
set_option maxRecDepth 100000 in
theorem test_hyp_hello_ends :
    bodyGood 0 (helloBody .secondary) = true ∧ helloOf (helloBody .secondary) = some ⟨.secondary, 0, 0, 0, 512⟩ ∧
      bodyGood 0 (helloBody .primary) = true ∧ helloOf (helloBody .primary) = some ⟨.primary, 0, 0, 0, 512⟩ ∧
      State.reset.sessionDecision false ⟨.secondary, 0, 0, 0, 512⟩ = .newSession ∧
      { State.reset with lnc := { State.reset.lnc with fresh := false } }.sessionDecision false
        ⟨.secondary, 0, 0, 0, 512⟩ = .resume := by decide +kernel
set_option maxRecDepth 100000 in
theorem test_hyp_start_ends :
    bodyGood 0 (buildBody 0 [1]) = true ∧ decisionOf ((buildBody 0 [1]).getD 0 0) = some .newSession ∧
      (training .replied).phase = .replied ∧ (training .replied).storedE = some 0 ∧
      (training .waiting).phase = .waiting := by decide +kernel
theorem test_hyp_new_session :
    let s := at0 { src with autoResync := true } .active State.reset
    let t := holding .degrade none s
    ((s.region 0).fields.direction = .source ∧ (s.region 0).state ≠ .disabled ∧ (s.region 1).state = .disabled) ∧
      (t.hld.holds.map Hold.tag).Nodup ∧ (∀ k ∈ t.hld.holds, k.verdict = none) ∧
      (∀ h ∈ t.hld.holds, h.state = .openHold ∧ h.localStatus = none) ∧
      (⟨3, 0, 0, .fail, none, .failed, 50⟩ : Hold).verdict = none := by decide
theorem test_hyp_training_timers :
    (State.reset.setLink (.down ⟨0, 5000⟩)).lnc.link = .down ⟨0, 5000⟩ ∧
      (training .calling).hello = some ⟨3, 200⟩ ∧ (training .replying).guard = some ⟨3, 64⟩ ∧
      (training .starting).guard = some ⟨3, 64⟩ ∧ 0 < State.reset.lnc.params.retrainDelay := by decide
theorem test_hyp_wanted_frame : ∀ w ∈ [TrainFrame.hello, .reply, .start],
    let s := State.reset.setLink (.training { training .calling with want := some w })
    s.lnc.lineBusy = false ∧ s.lnc.lineMet = false ∧ s.ftx.frame = none ∧ s.lineContested.lnc.lineMet = true ∧
      s.lnc.link = .training { training .calling with want := some w } := by decide
theorem test_hyp_transactions :
    (txn [1]).fell = true ∧ (⟨false, [0], []⟩ : Transaction).fell = false ∧ (0x77 : Byte) ∉ requestCodes ∧
      (1 : Byte).toNat ≠ 0 := by decide
theorem test_hyp_region_set :
    src.inRange = true ∧ (encodeFields src).length = 20 ∧ (State.reset.region 15).state = .disabled ∧
      ((at0 src .active State.reset).region 0).state ≠ .disabled ∧ 16 ≤ (16 : Byte).toNat := by decide
theorem test_hyp_region_set_bad_value : ∀ f : RegionFields, f.inRange = true → List.replicate 20 (0 : Byte) ≠
    encodeFields f := by
  intro f hf he
  have h0 : ∀ k : Nat, (encodeFields f)[k]?.getD 0 = (0 : Byte) := by
    intro k
    rw [← he, List.getElem?_replicate]
    split <;> rfl
  have h1 : (encodeFields f)[15]? = some (BitVec.ofNat 8 (f.timeout / 256)) := by
    simp [encodeFields, beBytes]
  have h2 : (encodeFields f)[16]? = some (BitVec.ofNat 8 f.timeout) := by simp [encodeFields, beBytes]
  have h3 := h0 15
  have h4 := h0 16
  rw [h1] at h3
  rw [h2] at h4
  have h5 : _ = 0 := congrArg BitVec.toNat h3
  have h6 : _ = 0 := congrArg BitVec.toNat h4
  simp only [Option.getD_some, BitVec.toNat_ofNat] at h5 h6
  simp only [RegionFields.inRange, decide_eq_true_eq] at hf
  omega
theorem test_hyp_region_enable :
    let s := at0 src .active (State.reset.setRegion 1 ⟨{ src with basePage := 4 }, .disabled, 0, 0, 0⟩)
    s.rgt.inRange = true ∧ s.overlaps 1 = false ∧ s.overlaps 2 = true ∧ (s.region 1).state = .disabled := by decide
theorem test_hyp_region_requests :
    ((at0 src .diverged State.reset).region 0).state = .diverged ∧
      ((at0 tgt .active State.reset).region 0).fields.direction = .target ∧ (2 : Byte).toNat = 2 ∧
      (1 : Byte) = Mode.sync.code := by decide
theorem test_hyp_settings :
    State.reset.lnc.params.inRange = true ∧ (encodeParams State.reset.lnc.params).length = 18 ∧
      { State.reset.lnc.params with dwell := 51, silence := 101 }.inRange = false ∧
      (beBytes 1 100 ++ beBytes 1 99 ++ beBytes 2 1024 ++ beBytes 4 65536).length = 8 := by decide
theorem test_hyp_link_requests :
    State.reset.lnc.link = .disabled ∧ (up hold State.reset).lnc.link.joined = true ∧
      (State.reset.setLink (.down ⟨0, 5⟩)).lnc.link ≠ .disabled ∧
      (State.reset.setLink (.down ⟨0, 5⟩)).lnc.link.joined = false := by decide
theorem test_hyp_queries :
    let s := { State.reset with swp := ⟨[3, 0], .draining ⟨5, 256, 256, [], some 4⟩⟩ }
    (0 : RegionIx) ∈ s.swp.queue ∧ s.swp.queue.length < 256 ∧ (5 : RegionIx) ∉ s.swp.queue ∧
      (reading State.reset).swp.engine = .reading ⟨0, 256, 16384, [0], none⟩ := by decide
theorem test_hyp_counters :
    (0x0F : Byte).toNat = (15 : Fin 16).val ∧ (0x3F : Byte).toNat = 0x30 + (15 : RegionIx).val ∧
      0x40 ≤ (0x40 : Byte).toNat ∧ (0x40 : Byte) ≠ 0xFF := by decide
theorem test_hyp_formats :
    (head (some .data)).type ≠ none ∧ [7, 8].length + 4 ≤ bodyBytes 0 ∧ (rec0 0).formed = true ∧
      (rec0 0).state ≠ .filling ∧ src.inRange = true ∧
      encodeTransaction (.nop (txn [0])) = some [0, 0] ∧ (Instr.nop (txn [0])).wellFormed = true := by decide
theorem test_hyp_frame_is_received :
    let s := up hold (journalled [rec0 0] 1 State.reset)
    let f := ((after .frameOpportunity s).ftx.frame.map TxFrame.bytes).getD []
    let h := headerOf ((f.drop 2).take 20)
    let r := hearing (.header h) (up held State.reset)
    r.frx.rx = some (.header h) ∧ r.frx.expected = s.jnl.sendPoint ∧ r.lnc.lineBusy = true ∧
      r.apl.queue.length + s.selection.length ≤ 512 ∧
      (r.apl.queue.map fun q => ceil16 q.length).sum + (s.selection.map fun q => ceil16 q.length).sum ≤ 65536 := by
  decide +kernel
theorem test_hyp_laws :
    let s := State.reset
    s.jnl.ordered = true ∧ s.jnl.withinLimits = true ∧ s.sentLaw = true ∧ s.jnl.sendCountsWithin = true ∧
      s.rgt.sound = true ∧ s.settingsInRange = true ∧ s.applyLaw = true ∧ s.sweepLaw = true ∧
      s.recordsFormed = true ∧ s.dnp.outstandingLaw = true ∧ s.tagLaw = true ∧ s.hld.waitingLaw = true ∧
      s.stallLaw = true ∧
      s.lineLaw = true ∧ s.turnLaw = true := by decide +kernel
theorem test_hyp_apply_law_in_flight :
    let s := after (.aplGrant 7) (queued (at0 tgt .active State.reset))
    s.applyLaw = true ∧ s.apl.queue.map ApplyRec.state = [.inFlight] ∧ s.apl.inFlight = [⟨7, 0, 0, false⟩] ∧
      s.dnp.outstandingLaw = true := by decide
theorem test_hyp_step_answers_next : step State.reset = .next { State.reset with now := 1 } := rfl
theorem test_hyp_laws_at_work :
    let s := up hold (queued (journalled [rec0 0] 1 (at0 src .active (State.reset.setRegion 1
      ⟨{ tgt with basePage := 4 }, .active, 0, 0, 0⟩))))
    s.jnl.ordered = true ∧ s.sentLaw = true ∧ s.applyLaw = true ∧ s.rgt.sound = true ∧ s.recordsFormed = true ∧
      s.sweepLaw = true ∧ s.tagLaw = true ∧ s.lineLaw = true ∧ s.turnLaw = true := by decide +kernel

end Sys2Proof.Tests
end

namespace Sys2Proof.Machine

/-! ### What an operation may do to a region table entry (R1, R5, R6) -/

/-- An entry after a step that neither loads nor enables it: its fields but the mode stay, it does not come to life,
and as a TARGET it takes no state but DISABLED and ACTIVE. -/
structure Region.Follows (e e' : Region) : Prop where
  fields : ∃ m, e'.fields = { e.fields with mode := m }
  disabled : e.state = .disabled → e'.state = .disabled
  states : e.fields.direction = .source ∨ e'.state = e.state ∨ e'.state = .disabled ∨ e'.state = .active

/-- Every entry of a table follows its entry before. -/
def Rgt.Follows (g g' : Rgt) : Prop := ∀ r : RegionIx, g.entries[r].Follows g'.entries[r]

theorem Region.Follows.of_same {e e' : Region} (hf : ∃ m, e'.fields = { e.fields with mode := m })
    (hs : e'.state = e.state) : e.Follows e' :=
  ⟨hf, fun h => hs.trans h, .inr (.inl hs)⟩

theorem Region.Follows.refl (e : Region) : e.Follows e := .of_same ⟨e.fields.mode, rfl⟩ rfl

theorem Region.Follows.trans {e f g : Region} (h : e.Follows f) (k : f.Follows g) : e.Follows g := by
  obtain ⟨m, hm⟩ := h.fields
  obtain ⟨n, hn⟩ := k.fields
  refine ⟨⟨n, by rw [hn, hm]⟩, fun hd => k.disabled (h.disabled hd), ?_⟩
  rcases h.states with hs | hs
  · exact .inl hs
  rcases k.states with ks | ks | ks
  · rw [hm] at ks; exact .inl ks
  · rw [ks]; exact .inr hs
  · exact .inr (.inr ks)

/-- A live entry may become DIVERGED or RESYNCING as a SOURCE, and ACTIVE or DISABLED in any case (R8 to R11). -/
theorem Region.Follows.state {e : Region} {st : RegionState} (hlive : st = .disabled ∨ e.state ≠ .disabled)
    (hst : e.fields.direction = .source ∨ st = .disabled ∨ st = .active) : e.Follows { e with state := st } :=
  ⟨⟨e.fields.mode, rfl⟩, fun hd => hlive.resolve_right (not_not_intro hd), hst.imp_right .inr⟩

@[simp] theorem Rgt.Follows.refl (g : Rgt) : g.Follows g := fun _ => .refl _

theorem Rgt.Follows.trans {f g h : Rgt} (i : f.Follows g) (j : g.Follows h) : f.Follows h :=
  fun r => (i r).trans (j r)

/-- A table that follows a sound one is sound (R1, R5, R6). -/
theorem Rgt.Follows.sound {g g' : Rgt} (h : g.Follows g') (hg : g.sound = true) : g'.sound = true := by
  simp only [Rgt.sound, Bool.and_eq_true, Rgt.inRange, Rgt.targetStates, Rgt.disjoint, List.all_eq_true,
    List.mem_finRange, forall_const, Bool.or_eq_true, decide_eq_true_eq, Bool.not_eq_true'] at hg ⊢
  obtain ⟨⟨hrange, htarget⟩, hdisj⟩ := hg
  have hlocal : ∀ r : RegionIx, g'.entries[r].fields.basePage = g.entries[r].fields.basePage ∧
      g'.entries[r].fields.size = g.entries[r].fields.size ∧
      g'.entries[r].fields.direction = g.entries[r].fields.direction ∧
      g'.entries[r].fields.inRange = g.entries[r].fields.inRange := by
    intro r
    obtain ⟨m, hm⟩ := (h r).fields
    rw [hm]
    exact ⟨rfl, rfl, rfl, rfl⟩
  refine ⟨⟨fun r => (hlocal r).2.2.2.trans (hrange r), fun r => ?_⟩, fun r q => ?_⟩
  · rw [(hlocal r).2.2.1]
    rcases (h r).states with hs | hs | hs | hs
    · exact .inl (.inl hs)
    · rw [hs]; exact htarget r
    · exact .inl (.inr hs)
    · exact .inr hs
  · rcases hdisj r q with ((hrq | hr) | hq) | hs
    · exact .inl (.inl (.inl hrq))
    · exact .inl (.inl (.inr ((h r).disabled hr)))
    · exact .inl (.inr ((h q).disabled hq))
    · right
      simp only [RegionFields.sharesPage, (hlocal r).1, (hlocal r).2.1, (hlocal q).1, (hlocal q).2.1]
      exact hs

/-- Replacing one entry by one that follows it. -/
theorem State.setRegion_follows (s : State) (r : RegionIx) (e : Region) (h : (s.region r).Follows e) :
    s.rgt.Follows (s.setRegion r e).rgt := by
  intro q
  have hq := s.region_setRegion r q e
  unfold State.region at hq
  rw [hq]
  split
  · next heq => exact heq ▸ h
  · exact .refl _

/-! ### The table under each operation -/

theorem State.setMode_follows (r : RegionIx) (m : Mode) (s : State) : s.rgt.Follows (s.setMode r m).rgt :=
  s.setRegion_follows r _ (.of_same ⟨m, rfl⟩ rfl)

theorem State.countCaptured_follows (r : RegionIx) (s : State) : s.rgt.Follows (s.countCaptured r).rgt :=
  s.setRegion_follows r _ (.of_same ⟨(s.region r).fields.mode, rfl⟩ rfl)

theorem State.countStray_follows (r : RegionIx) (s : State) : s.rgt.Follows (s.countStray r).rgt :=
  s.setRegion_follows r _ (.of_same ⟨(s.region r).fields.mode, rfl⟩ rfl)

theorem State.countApplied_follows (r : RegionIx) (s : State) : s.rgt.Follows (s.countApplied r).rgt :=
  s.setRegion_follows r _ (.of_same ⟨(s.region r).fields.mode, rfl⟩ rfl)

theorem Region.capturing_iff (e : Region) :
    e.capturing = true ↔ e.fields.direction = .source ∧ (e.state = .active ∨ e.state = .resyncing) := by
  simp [Region.capturing]

/-- A region whose writes are captured is not DISABLED. -/
theorem Region.live_of_capturing {e : Region} (h : e.capturing = true) : e.state ≠ .disabled := by
  rcases (e.capturing_iff.1 h).2 with hs | hs <;> simp [hs]

theorem State.diverge_follows (r : RegionIx) (s : State) : s.rgt.Follows (s.diverge r).rgt := by
  by_cases h : (s.region r).capturing = true
  · rw [s.diverge_live r h]
    exact s.setRegion_follows r _
      (.state (.inr (Region.live_of_capturing h)) (.inl ((Region.capturing_iff _).1 h).1))
  · rw [s.diverge_idle r (by simpa using h)]
    exact .refl _

theorem State.autoResync_follows (r : RegionIx) (s : State) : s.rgt.Follows (s.autoResync r).rgt := by
  unfold State.autoResync
  dsimp only
  split
  · next h => exact s.setRegion_follows r _ (.state (.inr (by simp [h.2.1])) (.inl h.1))
  · exact .refl _

theorem State.sweepAplAck_follows (p : Seq) (s : State) : s.rgt.Follows (s.sweepAplAck p).rgt := by
  unfold State.sweepAplAck
  split
  · next c _ =>
    split
    · dsimp only
      split
      · next hr =>
        exact s.setRegion_follows c.region _ (.state (.inr (by simp [hr])) (.inr (.inr rfl)))
      · exact .refl _
    · exact .refl _
  · exact .refl _

theorem State.expireHold_follows (tag : Tag) (s : State) : s.rgt.Follows (s.expireHold tag).rgt := by
  unfold State.expireHold
  split
  · exact .refl _
  split
  · dsimp only
    split
    · simp
    · exact State.setMode_follows _ .async s
  · exact .refl _

theorem State.stallActions_follows (x : RegionIx) (s : State) : s.rgt.Follows (s.stallActions x).rgt :=
  s.diverge_follows x

theorem State.stallCheck_follows (s : State) : s.rgt.Follows s.stallCheck.rgt := by
  unfold State.stallCheck
  split
  · exact .refl _
  · next x _ =>
    split
    · exact .refl _
    · split
      · exact s.stallActions_follows x
      · exact .refl _

/-- A pass over a list each of whose steps follows. -/
theorem foldl_follows {α : Type} (f : State → α → State)
    (h : ∀ (t : State) (a : α), t.rgt.Follows (f t a).rgt) (l : List α)
    (s : State) : s.rgt.Follows (l.foldl f s).rgt := by
  induction l generalizing s with
  | nil => exact .refl _
  | cons a l ih => exact (h s a).trans (ih (f s a))

theorem State.holdsNew_follows (s : State) : s.rgt.Follows s.holdsNew.rgt :=
  foldl_follows (fun t (h : Hold) => t.expireHold h.tag) (fun t h => t.expireHold_follows h.tag) _ s

theorem State.regionsNewStep1_follows (s : State) : s.rgt.Follows s.regionsNewStep1.rgt :=
  foldl_follows (fun t r => t.diverge r) (fun t r => t.diverge_follows r) _ s

theorem State.regionsNewStep2_follows (s : State) : s.rgt.Follows s.regionsNewStep2.rgt :=
  foldl_follows (fun t r => t.autoResync r) (fun t r => t.autoResync_follows r) _ s

theorem State.blocksNew_follows (s : State) : s.rgt.Follows s.blocksNew.rgt := by
  have h := s.holdsNew.regionsNewStep1.sweepNew.regionsNewStep2_follows
  simp only [State.sweepNew_rgt] at h
  simpa [State.blocksNew] using (s.holdsNew_follows.trans s.holdsNew.regionsNewStep1_follows).trans h

theorem State.applySession_follows (d : Decision) (e : Seq) (s : State) :
    s.rgt.Follows (s.applySession d e).rgt := by
  cases d with
  | newSession =>
    exact State.blocksNew_follows
      ((({ s with lnc := { s.lnc with fresh := false } } : State).count .sessionsNew).raise .sessionNew)
  | resume => simp [State.applySession]

theorem State.captureWrite_follows (x : RegionIx) (r : UpRequest) (bytes : List (Byte × Bool)) (s : State) :
    s.rgt.Follows (s.captureWrite x r bytes).rgt := by
  have h : s.rgt.Follows ((s.capture x r.address
      (remoteOf r.address (s.region x).fields.displacement) bytes).countCaptured x).rgt := by
    refine .trans ?_ (State.countCaptured_follows x _)
    simp
  unfold State.captureWrite
  dsimp only
  split
  · exact h
  · simpa using h

theorem State.applyClass_follows (c : UpClass) (r : UpRequest) (s : State) :
    s.rgt.Follows (s.applyClass c r).1.rgt := by
  cases c with
  | forward path => exact .refl _
  | capture x =>
    simp only [State.applyClass]
    split
    · exact .refl _
    · exact s.captureWrite_follows x r _
  | noSpace x path => exact s.diverge_follows x
  | strayPass x => exact s.countStray_follows x
  | strayReject x => exact s.countStray_follows x

theorem State.sweepAnswer_follows (q : Seq) (st : BusStatus) (data : List Byte) (s : State) :
    s.rgt.Follows (s.sweepAnswer q st data).rgt := by
  have hother : s.rgt.Follows (s.otherReadAnswer q st data).rgt := by
    unfold State.otherReadAnswer
    split <;> simp
  unfold State.sweepAnswer
  split
  · next c _ =>
    split
    · cases st with
      | okay => simp [State.ownReadAnswer]
      | fault =>
        refine .trans ?_ (State.diverge_follows c.region _)
        simp
    · exact hother
  · exact hother

theorem State.applyAnswer_follows (itag : ITag) (st : BusStatus) (s : State) :
    s.rgt.Follows (s.applyAnswer itag st).rgt := by
  unfold State.applyAnswer
  split
  · exact .refl _
  · next e _ =>
    cases st with
    | okay => exact s.countApplied_follows e.region
    | fault => simp [State.countApply]

theorem State.upAnswer_rgt (tag : Tag) (path : UpPath) (st : BusStatus) (data : List Byte) (s : State) :
    (s.upAnswer tag path st data).rgt = s.rgt := by
  unfold State.upAnswer State.localFault
  cases path with
  | captured held => cases held <;> cases st <;> simp
  | _ => simp

theorem State.deliver_follows (e : OutEntry) (st : BusStatus) (data : List Byte) (s : State) :
    s.rgt.Follows (s.deliver e st data).rgt := by
  unfold State.deliver
  split
  · next path _ =>
    split
    · unfold State.upAbandoned State.localFault
      cases path with
      | captured held => cases st <;> simp
      | _ => simp
    · simp [State.upAnswer_rgt]
  · exact s.applyAnswer_follows e.itag st
  · split
    · exact .refl _
    · exact s.sweepAnswer_follows _ st _

end Sys2Proof.Machine

namespace Sys2Proof.Machine

/-! ### The journal's settings under each operation (R37) -/

/-- The loadable settings of JNL. -/
def Jnl.settings (j : Jnl) : Nat × Nat × Nat × Nat := (j.highMark, j.lowMark, j.reserveDesc, j.reserveBytes)

@[simp] theorem State.evalMarks_settings (s : State) : s.evalMarks.jnl.settings = s.jnl.settings := by
  rw [s.evalMarks_keeps.1]; rfl
@[simp] theorem State.setRecords_settings (rs : List Record) (s : State) :
    (s.setRecords rs).jnl.settings = s.jnl.settings := by
  rw [(s.setRecords_keeps rs).1]; rfl
@[simp] theorem State.appendRecord_settings (rec : Record) (s : State) :
    (s.appendRecord rec).jnl.settings = s.jnl.settings :=
  s.setRecords_settings _
@[simp] theorem State.capture_settings (x : RegionIx) (a b : Addr) (bytes : List (Byte × Bool)) (s : State) :
    (s.capture x a b bytes).jnl.settings = s.jnl.settings := by
  unfold State.capture; split <;> simp
@[simp] theorem State.goBack_settings (q : Seq) (s : State) : (s.goBack q).jnl.settings = s.jnl.settings := by
  simp [State.goBack]
@[simp] theorem State.takeRcvAck_settings (q : Seq) (s : State) :
    (s.takeRcvAck q).jnl.settings = s.jnl.settings := by
  unfold State.takeRcvAck; split <;> simp
@[simp] theorem State.takeNak_settings (q : Seq) (s : State) : (s.takeNak q).jnl.settings = s.jnl.settings := by
  unfold State.takeNak; split <;> simp
@[simp] theorem State.revertSent_settings (s : State) : s.revertSent.jnl.settings = s.jnl.settings := by
  simp [State.revertSent]
@[simp] theorem State.journalNew_settings (s : State) : s.journalNew.jnl.settings = s.jnl.settings := rfl
@[simp] theorem State.journalResume_settings (e : Seq) (s : State) :
    (s.journalResume e).jnl.settings = s.jnl.settings := by
  simp only [State.journalResume, State.evalMarks_settings]; rfl
@[simp] theorem State.fillRecord_settings (q : Seq) (data : List Byte) (s : State) :
    (s.fillRecord q data).jnl.settings = s.jnl.settings := by
  simp [State.fillRecord]
@[simp] theorem State.voidRecord_settings (q : Seq) (s : State) :
    (s.voidRecord q).jnl.settings = s.jnl.settings := by
  simp [State.voidRecord]
@[simp] theorem State.ackCheck_settings (s : State) : s.ackCheck.jnl.settings = s.jnl.settings := by
  unfold State.ackCheck; (repeat' split) <;> simp
@[simp] theorem State.buildData_settings (turn : Bool) (s : State) :
    (s.buildData turn).jnl.settings = s.jnl.settings := by
  simp [State.buildData]
@[simp] theorem State.captureWrite_settings (x : RegionIx) (r : UpRequest) (bytes : List (Byte × Bool)) (s : State) :
    (s.captureWrite x r bytes).jnl.settings = s.jnl.settings := by
  unfold State.captureWrite; dsimp only; split <;> simp
@[simp] theorem State.goDisabled_settings (s : State) : s.goDisabled.jnl.settings = s.jnl.settings := by
  unfold State.goDisabled; split <;> simp
@[simp] theorem State.enterHold_settings (u : Turn) (s : State) : (s.enterHold u).jnl.settings = s.jnl.settings := by
  simp [State.enterHold]

/-! ### The link parameters under each operation (R153) -/

@[simp] theorem State.setLink_params (l : Link) (s : State) : (s.setLink l).lnc.params = s.lnc.params := rfl
@[simp] theorem State.lineTaken_params (s : State) : s.lineTaken.lnc.params = s.lnc.params := rfl
@[simp] theorem State.lineContested_params (s : State) : s.lineContested.lnc.params = s.lnc.params := rfl
@[simp] theorem State.lineReleased_params (s : State) : s.lineReleased.lnc.params = s.lnc.params := rfl
@[simp] theorem State.dropLine_params (s : State) : s.dropLine.lnc.params = s.lnc.params := rfl
@[simp] theorem State.enterTraining_params (s : State) : s.enterTraining.lnc.params = s.lnc.params := rfl
@[simp] theorem State.goUp_params (u : Turn) (s : State) : (s.goUp u).lnc.params = s.lnc.params := rfl
@[simp] theorem State.goDown_params (c : DownCause) (s : State) : (s.goDown c).lnc.params = s.lnc.params := by
  unfold State.goDown; split <;> simp
@[simp] theorem State.goDisabled_params (s : State) : s.goDisabled.lnc.params = s.lnc.params := by
  unfold State.goDisabled; split <;> simp
@[simp] theorem State.enterHold_params (u : Turn) (s : State) : (s.enterHold u).lnc.params = s.lnc.params := by
  simp [State.enterHold]
@[simp] theorem State.dwellCheck_params (s : State) : s.dwellCheck.lnc.params = s.lnc.params := by
  unfold State.dwellCheck; (repeat' split) <;> simp
@[simp] theorem State.sendWanted_params (s : State) : s.sendWanted.lnc.params = s.lnc.params := by
  unfold State.sendWanted; (repeat' split) <;> simp
@[simp] theorem State.recordWindow_params (w : Nat) (s : State) :
    (s.recordWindow w).lnc.params = s.lnc.params := rfl
@[simp] theorem State.applySession_params (d : Decision) (e : Seq) (s : State) :
    (s.applySession d e).lnc.params = s.lnc.params := by
  rw [State.applySession_lnc]

/-! ### What E is under the operations of the link (R126, R137) -/

@[simp] theorem State.dropLine_expected (s : State) : s.dropLine.frx.expected = s.frx.expected := rfl
@[simp] theorem State.goDown_expected (c : DownCause) (s : State) :
    (s.goDown c).frx.expected = s.frx.expected := by
  unfold State.goDown; split <;> simp
@[simp] theorem State.goDisabled_expected (s : State) : s.goDisabled.frx.expected = s.frx.expected := by
  unfold State.goDisabled; split <;> simp

/-- The settings are sound when they are those of a state whose settings are (R37, R153). -/
theorem State.settingsInRange_congr {s t : State} (hp : t.lnc.params = s.lnc.params)
    (hj : t.jnl.settings = s.jnl.settings) : t.settingsInRange = s.settingsInRange := by
  simp only [Jnl.settings, Prod.mk.injEq] at hj
  obtain ⟨hh, hl, hd, hb⟩ := hj
  simp only [State.settingsInRange, Jnl.settingsInRange, hp, hh, hl, hd, hb]

/-! ### The apply engine's part of the port (R24, R36) -/

/-- What the outstanding entries of APL share with the in-flight list. -/
def Dnp.aplParts (d : Dnp) : List (ITag × Seq × Bool) := d.outstanding.filterMap OutEntry.aplPart

/-- The law of the apply engine reads APL, E and the outstanding entries of APL alone (R141, R142). -/
theorem State.applyLaw_congr {s t : State} (ha : t.apl = s.apl) (he : t.frx.expected = s.frx.expected)
    (hd : t.dnp.aplParts = s.dnp.aplParts) : t.applyLaw = s.applyLaw := by
  unfold Dnp.aplParts at hd
  simp only [State.applyLaw, State.applyQueueLaw, State.inFlightLaw, ha, he, hd]

/-! ### Operations that leave the settings and the apply engine alone -/

/-- What `t` is to `s` when an operation has led there that loads no setting and enables no region, and that touches
nothing the apply engine's law reads. -/
structure State.Quiet (s t : State) : Prop where
  table : s.rgt.Follows t.rgt
  params : t.lnc.params = s.lnc.params
  settings : t.jnl.settings = s.jnl.settings
  apl : t.apl = s.apl
  expected : t.frx.expected = s.frx.expected
  parts : t.dnp.aplParts = s.dnp.aplParts

theorem State.Quiet.refl (s : State) : s.Quiet s := ⟨.refl _, rfl, rfl, rfl, rfl, rfl⟩

theorem State.Quiet.trans {s t u : State} (h : s.Quiet t) (k : t.Quiet u) : s.Quiet u where
  table := h.table.trans k.table
  params := k.params.trans h.params
  settings := k.settings.trans h.settings
  apl := k.apl.trans h.apl
  expected := k.expected.trans h.expected
  parts := k.parts.trans h.parts

/-- Of an operation whose table follows and which leaves the rest as it is. -/
theorem State.Quiet.of_table {s t : State} (htable : s.rgt.Follows t.rgt)
    (h : t.lnc.params = s.lnc.params ∧ t.jnl.settings = s.jnl.settings ∧ t.apl = s.apl ∧
      t.frx.expected = s.frx.expected ∧ t.dnp.aplParts = s.dnp.aplParts) : s.Quiet t := by
  obtain ⟨hp, hj, ha, he, hd⟩ := h
  exact ⟨htable, hp, hj, ha, he, hd⟩

/-- Of an operation that leaves the table alone too. -/
theorem State.Quiet.of_rgt {s t : State}
    (h : t.rgt = s.rgt ∧ t.lnc.params = s.lnc.params ∧ t.jnl.settings = s.jnl.settings ∧ t.apl = s.apl ∧
      t.frx.expected = s.frx.expected ∧ t.dnp.aplParts = s.dnp.aplParts) : s.Quiet t :=
  .of_table (by rw [h.1]; exact .refl _) h.2

theorem State.diverge_quiet (r : RegionIx) (s : State) : s.Quiet (s.diverge r) :=
  .of_table (s.diverge_follows r) (by simp)

theorem State.expireHold_quiet (tag : Tag) (s : State) : s.Quiet (s.expireHold tag) :=
  .of_table (s.expireHold_follows tag) (by simp)

theorem State.stallActions_quiet (x : RegionIx) (s : State) : s.Quiet (s.stallActions x) :=
  .of_table (s.stallActions_follows x) (by simp)

theorem State.goDown_quiet (c : DownCause) (s : State) : s.Quiet (s.goDown c) :=
  .of_rgt (by simp)

theorem State.applyClass_quiet (c : UpClass) (r : UpRequest) (s : State) : s.Quiet (s.applyClass c r).1 := by
  refine ⟨s.applyClass_follows c r, ?_, ?_, ?_, ?_, ?_⟩
  all_goals
    cases c with
    | capture x =>
      simp only [State.applyClass, State.captureWrite]
      split
      · rfl
      · dsimp only
        split <;> simp
    | _ => simp [State.applyClass, State.strayWrite]

theorem State.sweepAnswer_quiet (q : Seq) (st : BusStatus) (data : List Byte) (s : State) :
    s.Quiet (s.sweepAnswer q st data) := by
  have hother : s.Quiet (s.otherReadAnswer q st data) := by
    unfold State.otherReadAnswer
    split
    · exact .refl s
    · exact .of_rgt (by simp)
    · exact .of_rgt (by simp)
  unfold State.sweepAnswer
  split
  · next c _ =>
    split
    · cases st with
      | okay =>
        simp only [State.ownReadAnswer]
        exact .of_rgt (by simp)
      | fault =>
        refine .trans ?_ (State.diverge_quiet c.region _)
        exact .of_rgt (by simp)
    · exact hother
  · exact hother

end Sys2Proof.Machine

namespace Sys2Proof.Machine

/-! ### Runs of sequence numbers (00_scope) -/

theorem seqRun_append (a : Seq) (l m : List Seq) :
    seqRun a (l ++ m) = (seqRun a l && seqRun (a + BitVec.ofNat 32 l.length) m) := by
  induction l generalizing a with
  | nil => simp [seqRun]
  | cons x l ih =>
    have h : a + 1 + BitVec.ofNat 32 l.length = a + BitVec.ofNat 32 (l.length + 1) := by
      rw [BitVec.ofNat_add, BitVec.add_assoc, BitVec.add_comm 1 (BitVec.ofNat 32 l.length)]
      rfl
    simp only [List.cons_append, seqRun, ih, h, Bool.and_assoc, List.length_cons]

/-- The seq at a place of a run. -/
theorem seqRun_getElem {a : Seq} {l : List Seq} (h : seqRun a l = true) (i : Nat) (hi : i < l.length) :
    l[i] = a + BitVec.ofNat 32 i := by
  have hl : l = l.take i ++ l[i] :: l.drop (i + 1) := by simp
  rw [hl, seqRun_append] at h
  simp only [seqRun, Bool.and_eq_true, decide_eq_true_eq, List.length_take, Nat.min_eq_left hi.le] at h
  exact h.2.1

/-- A run no longer than the seqs there are holds each seq once. -/
theorem seqRun_nodup {a : Seq} {l : List Seq} (h : seqRun a l = true) (hl : l.length ≤ 2 ^ 32) : l.Nodup := by
  rw [List.nodup_iff_injective_getElem]
  intro i j hij
  simp only [seqRun_getElem h] at hij
  have hk := congrArg BitVec.toNat ((BitVec.add_right_inj _).1 hij)
  simp only [BitVec.toNat_ofNat] at hk
  have := i.isLt
  have := j.isLt
  apply Fin.ext
  omega

/-! ### The apply queue under a change of one record's state (R141) -/

theorem setApplyState_seqs (q : Seq) (st : ApplyState) (l : List ApplyRec) :
    (setApplyState q st l).map ApplyRec.seq = l.map ApplyRec.seq := by
  rw [setApplyState, List.map_map]
  refine List.map_congr_left fun r _ => ?_
  dsimp only [Function.comp]
  split <;> rfl

theorem setApplyState_length (q : Seq) (st : ApplyState) (l : List ApplyRec) :
    (setApplyState q st l).length = l.length := by
  simp [setApplyState]

theorem setApplyState_bytes (q : Seq) (st : ApplyState) (l : List ApplyRec) :
    applyBytesOf (setApplyState q st l) = applyBytesOf l := by
  unfold applyBytesOf
  rw [setApplyState, List.map_map]
  congr 1
  refine List.map_congr_left fun r _ => ?_
  dsimp only [Function.comp]
  split <;> rfl

/-- Where one record alone has a seq, it alone changes. -/
theorem setApplyState_split (st : ApplyState) {before after : List ApplyRec} {rec : ApplyRec}
    (hb : ∀ r ∈ before, r.seq ≠ rec.seq) (ha : ∀ r ∈ after, r.seq ≠ rec.seq) :
    setApplyState rec.seq st (before ++ rec :: after) = before ++ { rec with state := st } :: after := by
  have hid : ∀ l : List ApplyRec, (∀ r ∈ l, r.seq ≠ rec.seq) →
      l.map (fun r => if r.seq = rec.seq then { r with state := st } else r) = l := by
    intro l hl
    calc l.map _ = l.map id := List.map_congr_left fun r hr => by simp [hl r hr]
      _ = l := List.map_id l
  simp [setApplyState, hid before hb, hid after ha]

/-! ### The law of the apply engine as facts (R141, R142) -/

/-- Law 5: the queue holds the records from A up to E - 1 in seq order, within its limits. -/
structure Apl.QueueSound (a : Apl) (e : Seq) : Prop where
  seqs : seqRun a.applied (a.queue.map ApplyRec.seq) = true
  expected : e = a.applied + BitVec.ofNat 32 a.queue.length
  records : a.queue.length ≤ Config.applyRecords
  bytes : applyBytesOf a.queue ≤ Config.applyBytes

/-- Where the issue point lies, and what lies before and after it. -/
structure Apl.IssueSound (a : Apl) : Prop where
  issued : a.issued ≤ a.queue.length
  before : ∀ r ∈ a.queue.take a.issued, r.state ≠ .waiting
  after : ∀ r ∈ a.queue.drop a.issued, r.state = .waiting

/-- What the in-flight list is to the port and to the queue. -/
structure Apl.InFlightSound (a : Apl) (parts : List (ITag × Seq × Bool)) : Prop where
  entries : parts = a.inFlight.map fun e => (e.itag, e.seq, e.orphaned)
  records : (a.inFlight.filter fun e => !e.orphaned).map AplEntry.seq =
    (a.queue.filter fun r => decide (r.state = .inFlight)).map ApplyRec.seq

/-- The law of the apply engine (R141, R142). -/
structure Apl.Sound (a : Apl) (e : Seq) (parts : List (ITag × Seq × Bool)) : Prop where
  queue : a.QueueSound e
  issue : a.IssueSound
  inFlight : a.InFlightSound parts

theorem State.applyLaw_iff (s : State) :
    s.applyLaw = true ↔ s.apl.Sound s.frx.expected s.dnp.aplParts := by
  simp only [State.applyLaw, State.applyQueueLaw, Apl.issueLaw, State.inFlightLaw, Bool.and_eq_true,
    decide_eq_true_eq, List.all_eq_true]
  constructor
  · rintro ⟨⟨⟨⟨⟨hs, he⟩, hr⟩, hb⟩, ⟨hi, hbefore⟩, hafter⟩, hent, hrec⟩
    exact ⟨⟨hs, he, hr, hb⟩, ⟨hi, hbefore, hafter⟩, ⟨hent, hrec⟩⟩
  · rintro ⟨⟨hs, he, hr, hb⟩, ⟨hi, hbefore, hafter⟩, ⟨hent, hrec⟩⟩
    exact ⟨⟨⟨⟨⟨hs, he⟩, hr⟩, hb⟩, ⟨hi, hbefore⟩, hafter⟩, hent, hrec⟩

/-- No two records of the queue share a seq. -/
theorem Apl.QueueSound.nodup {a : Apl} {e : Seq} (h : a.QueueSound e) : (a.queue.map ApplyRec.seq).Nodup := by
  refine seqRun_nodup h.seqs ?_
  have : a.queue.length ≤ 512 := h.records
  simp only [List.length_map]
  omega

theorem Apl.QueueSound.seq_inj {a : Apl} {e : Seq} (h : a.QueueSound e) {r q : ApplyRec} (hr : r ∈ a.queue)
    (hq : q ∈ a.queue) (hs : r.seq = q.seq) : r = q :=
  List.inj_on_of_nodup_map h.nodup hr hq hs

/-- The seq at the issue point, counted from A. -/
theorem Apl.issue_eq (a : Apl) : a.issue = a.applied + BitVec.ofNat 32 a.issued := by
  rw [Apl.issued, BitVec.ofNat_toNat, BitVec.setWidth_eq, BitVec.add_comm, BitVec.sub_add_cancel]

/-- The record at the issue point is the one that many places after A (R143). -/
theorem Apl.QueueSound.atIssue {a : Apl} {e : Seq} (h : a.QueueSound e) (hi : a.issued ≤ a.queue.length) :
    a.atIssue = a.queue[a.issued]? := by
  have hseq : ∀ (i : Nat) (hlt : i < a.queue.length), a.queue[i].seq = a.issue ↔ i = a.issued := by
    intro i hlt
    have := seqRun_getElem h.seqs i (by simpa using hlt)
    rw [List.getElem_map] at this
    rw [this, a.issue_eq, BitVec.add_right_inj]
    have : a.queue.length ≤ 512 := h.records
    constructor
    · intro hk
      have hk := congrArg BitVec.toNat hk
      simp only [BitVec.toNat_ofNat] at hk
      omega
    · rintro rfl; rfl
  by_cases hlt : a.issued < a.queue.length
  · rw [List.getElem?_eq_getElem hlt, Apl.atIssue, List.find?_eq_some_iff_getElem]
    refine ⟨by simpa using (hseq _ hlt).2 rfl, a.issued, hlt, rfl, fun j hj => ?_⟩
    have := (hseq j (hj.trans hlt)).not.2 hj.ne
    simpa using this
  · rw [List.getElem?_eq_none (Nat.le_of_not_lt hlt), Apl.atIssue, List.find?_eq_none]
    intro r hr
    obtain ⟨i, hlt', rfl⟩ := List.getElem_of_mem hr
    have := (hseq i hlt').not.2 (by omega)
    simpa using this

/-- The queue around the record at the issue point (R141, R143). -/
theorem Apl.QueueSound.split {a : Apl} {e : Seq} (h : a.QueueSound e) (hi : a.IssueSound) {rec : ApplyRec}
    (hrec : a.atIssue = some rec) : ∃ before after, a.queue = before ++ rec :: after ∧ before.length = a.issued ∧
      rec.seq = a.issue ∧ rec.state = .waiting ∧ (∀ r ∈ before, r.seq ≠ rec.seq) ∧ (∀ r ∈ after, r.seq ≠ rec.seq) ∧
      (∀ r ∈ before, r.state ≠ .waiting) ∧ (∀ r ∈ after, r.state = .waiting) := by
  have hseq : rec.seq = a.issue := by simpa using List.find?_some hrec
  rw [h.atIssue hi.issued] at hrec
  obtain ⟨hlt, hget⟩ := List.getElem?_eq_some_iff.1 hrec
  have hq : a.queue = a.queue.take a.issued ++ rec :: a.queue.drop (a.issued + 1) := by
    rw [← hget]; simp
  have hdrop : a.queue.drop a.issued = rec :: a.queue.drop (a.issued + 1) := by
    rw [← hget]; simp
  have hnd := h.nodup
  rw [hq, List.map_append, List.map_cons, List.nodup_append] at hnd
  obtain ⟨_, hcons, happ⟩ := hnd
  have hafter := hi.after
  rw [hdrop] at hafter
  refine ⟨_, _, hq, by simp [hlt.le], hseq, hafter rec (by simp), fun r hr => ?_, fun r hr heq => ?_, hi.before,
    fun r hr => hafter r (List.mem_cons_of_mem _ hr)⟩
  · exact happ _ (List.mem_map_of_mem hr) _ (by simp)
  · exact (List.nodup_cons.1 hcons).1 (heq ▸ List.mem_map_of_mem hr)

/-! ### Records leaving the issue point (R143 to R145) -/

theorem Apl.QueueSound.passIssue {a : Apl} {e : Seq} (st : ApplyState) (h : a.QueueSound e) :
    (a.passIssue st).QueueSound e where
  seqs := by simpa [Apl.passIssue, setApplyState_seqs] using h.seqs
  expected := by simpa [Apl.passIssue, setApplyState_length] using h.expected
  records := by simpa [Apl.passIssue, setApplyState_length] using h.records
  bytes := by simpa [Apl.passIssue, setApplyState_bytes] using h.bytes

/-- The queue once the record at the issue point has left it. -/
theorem Apl.passIssue_queue {a : Apl} {rec : ApplyRec} (st : ApplyState) {before after : List ApplyRec}
    (hq : a.queue = before ++ rec :: after) (hs : rec.seq = a.issue) (hb : ∀ r ∈ before, r.seq ≠ rec.seq)
    (ha : ∀ r ∈ after, r.seq ≠ rec.seq) :
    (a.passIssue st).queue = before ++ { rec with state := st } :: after := by
  rw [Apl.passIssue, ← hs, hq]
  exact setApplyState_split st hb ha

theorem Apl.passIssue_issued {a : Apl} (st : ApplyState) (h : a.issued < 2 ^ 32 - 1) :
    (a.passIssue st).issued = a.issued + 1 := by
  unfold Apl.issued at h ⊢
  simp only [Apl.passIssue]
  bv_omega

theorem Apl.IssueSound.passIssue {a : Apl} {e : Seq} {st : ApplyState} (h : a.QueueSound e) (hi : a.IssueSound)
    (hst : st ≠ .waiting) {rec : ApplyRec} (hrec : a.atIssue = some rec) : (a.passIssue st).IssueSound := by
  obtain ⟨before, after, hq, hlen, hs, -, hb, ha, hbefore, hafter⟩ := h.split hi hrec
  have hqueue := Apl.passIssue_queue st hq hs hb ha
  have hrecords : a.queue.length ≤ 512 := h.records
  have hle := hi.issued
  have hissued : (a.passIssue st).issued = before.length + 1 := by
    rw [hlen]; exact a.passIssue_issued st (by omega)
  have htake : (before ++ { rec with state := st } :: after).take (before.length + 1) =
      before ++ [{ rec with state := st }] := by simp [List.take_append]
  have hdrop : (before ++ { rec with state := st } :: after).drop (before.length + 1) = after := by
    simp [List.drop_append]
  constructor
  · rw [hissued, hqueue]; simp
  · rw [hissued, hqueue, htake]
    intro r hr
    rcases List.mem_append.1 hr with hr | hr
    · exact hbefore r hr
    · rw [List.mem_singleton.1 hr]; exact hst
  · rw [hissued, hqueue, hdrop]
    exact hafter

/-- A record finished at issue was not IN_FLIGHT and is not (R144). -/
theorem Apl.Sound.finish {a : Apl} {e : Seq} {parts : List (ITag × Seq × Bool)} (h : a.Sound e parts)
    {rec : ApplyRec} (hrec : a.atIssue = some rec) : (a.passIssue .done).Sound e parts := by
  refine ⟨h.queue.passIssue .done, h.issue.passIssue h.queue (by decide) hrec, h.inFlight.entries, ?_⟩
  obtain ⟨before, after, hq, -, hs, hw, hb, ha, -, -⟩ := h.queue.split h.issue hrec
  have hold := h.inFlight.records
  rw [hq] at hold
  rw [Apl.passIssue_queue .done hq hs hb ha]
  simpa [Apl.passIssue, hw] using hold

/-- A record granted to APL is IN_FLIGHT, and its entry is the last of the in-flight list (R141, R145). -/
theorem Apl.Sound.grant {a : Apl} {e : Seq} {parts : List (ITag × Seq × Bool)} (h : a.Sound e parts)
    {rec : ApplyRec} (hrec : a.atIssue = some rec) (itag : ITag) (x : RegionIx) :
    Apl.Sound { a.passIssue .inFlight with inFlight := a.inFlight ++ [⟨itag, rec.seq, x, false⟩] } e
      (parts ++ [(itag, rec.seq, false)]) := by
  obtain ⟨hseqs, hexp, hlen, hbytes⟩ := h.queue.passIssue .inFlight
  obtain ⟨hissued, hbefore', hafter'⟩ := h.issue.passIssue h.queue (st := .inFlight) (by decide) hrec
  refine ⟨⟨hseqs, hexp, hlen, hbytes⟩, ⟨hissued, hbefore', hafter'⟩, by simp [h.inFlight.entries], ?_⟩
  obtain ⟨before, after, hq, -, hs, hw, hb, ha, -, hafter⟩ := h.queue.split h.issue hrec
  have hold := h.inFlight.records
  have hnone : (after.filter fun r => decide (r.state = .inFlight)) = [] := by
    rw [List.filter_eq_nil_iff]
    intro r hr
    simp [hafter r hr]
  rw [hq] at hold
  dsimp only
  rw [Apl.passIssue_queue .inFlight hq hs hb ha]
  simpa [hw, hnone] using hold

/-! ### The advance of A (R147) -/

theorem Apl.Sound.advance {a : Apl} {e : Seq} {parts : List (ITag × Seq × Bool)} (h : a.Sound e parts) :
    a.advance.Sound e parts := by
  obtain ⟨⟨hseqs, hexp, hlen, hbytes⟩, ⟨hissued, hbefore, hafter⟩, hent, hrec⟩ := h
  have hadv : a.advance = { a with
    queue := a.queue.drop (a.queue.takeWhile fun r => decide (r.state = .done)).length
    applied := a.applied + BitVec.ofNat 32 (a.queue.takeWhile fun r => decide (r.state = .done)).length } := rfl
  have hdone : ∀ r ∈ a.queue.takeWhile (fun r => decide (r.state = .done)), r.state = .done := fun r hr => by
    simpa using List.mem_takeWhile_imp hr
  have hprefix := List.takeWhile_prefix (fun r : ApplyRec => decide (r.state = .done)) (l := a.queue)
  generalize a.queue.takeWhile (fun r => decide (r.state = .done)) = run at hadv hdone hprefix
  obtain ⟨rest, hq⟩ := hprefix
  have hdrop : a.queue.drop run.length = rest := by rw [← hq]; simp
  have hrun : run.length ≤ a.issued := by
    by_contra hlt
    have hlt : a.issued < run.length := Nat.lt_of_not_le hlt
    have hget : run[a.issued] ∈ a.queue.drop a.issued := by
      rw [← hq, List.drop_append_of_le_length hlt.le, List.drop_eq_getElem_cons hlt]
      exact List.mem_append_left _ List.mem_cons_self
    have hw := hafter _ hget
    rw [hdone _ (List.getElem_mem hlt)] at hw
    cases hw
  have hissued' : a.advance.issued = a.issued - run.length := by
    rw [hadv]
    unfold Apl.issued at hrun hissued ⊢
    have : a.queue.length ≤ 512 := hlen
    have : run.length ≤ 512 := by omega
    bv_omega
  rw [hdrop] at hadv
  have hqlen : a.queue.length = run.length + rest.length := by rw [← hq, List.length_append]
  refine ⟨⟨?_, ?_, ?_, ?_⟩, ⟨?_, ?_, ?_⟩, ?_, ?_⟩
  · rw [← hq, List.map_append, seqRun_append, Bool.and_eq_true] at hseqs
    rw [hadv]
    simpa using hseqs.2
  · rw [hadv, hexp, hqlen, BitVec.ofNat_add, BitVec.add_assoc]
  · rw [hadv]; dsimp only; omega
  · rw [hadv]
    rw [← hq] at hbytes
    simp only [applyBytesOf, List.map_append, List.sum_append] at hbytes ⊢
    omega
  · rw [hissued', hadv]; dsimp only; omega
  · intro r hr
    apply hbefore r
    rw [hissued', hadv] at hr
    dsimp only at hr
    rw [← hq, List.take_append, List.take_of_length_le hrun]
    exact List.mem_append_right _ hr
  · intro r hr
    apply hafter r
    rw [hissued', hadv] at hr
    dsimp only at hr
    rw [← hq, List.drop_append, List.drop_eq_nil_of_le hrun]
    simpa using hr
  · rw [hadv]; exact hent
  · rw [hadv]
    dsimp only
    rw [hrec, ← hq, List.filter_append]
    have : (run.filter fun r => decide (r.state = .inFlight)) = [] := by
      rw [List.filter_eq_nil_iff]
      intro r hr
      simp [hdone r hr]
    rw [this, List.nil_append]

end Sys2Proof.Machine

namespace Sys2Proof.Machine

/-! ### The response to an apply write (R146, R150) -/

/-- Marking a record DONE takes its seq, and no other, from those IN_FLIGHT. -/
theorem setApplyState_done_inFlight (q : Seq) (l : List ApplyRec) :
    ((setApplyState q .done l).filter fun r => decide (r.state = .inFlight)).map ApplyRec.seq =
      ((l.filter fun r => decide (r.state = .inFlight)).map ApplyRec.seq).filter fun p => decide (p ≠ q) := by
  induction l with
  | nil => rfl
  | cons r l ih =>
    rw [setApplyState] at ih ⊢
    by_cases hq : r.seq = q <;> by_cases hs : r.state = .inFlight <;> simp [hq, hs] at ih ⊢ <;> exact ih

/-- Where internal tags are unique, one of them names one write in flight. -/
theorem Apl.InFlightSound.tag_inj {a : Apl} {parts : List (ITag × Seq × Bool)} (h : a.InFlightSound parts)
    (htags : (parts.map Prod.fst).Nodup) {f g : AplEntry} (hf : f ∈ a.inFlight) (hg : g ∈ a.inFlight)
    (htag : g.itag = f.itag) : g = f := by
  rw [h.entries, List.map_map] at htags
  exact List.inj_on_of_nodup_map htags hg hf htag

/-- An entry leaves the in-flight list as it leaves the port. -/
theorem Apl.InFlightSound.entries_remove {a : Apl} {parts : List (ITag × Seq × Bool)} (h : a.InFlightSound parts)
    (itag : ITag) : (parts.filter fun p => decide (p.1 ≠ itag)) =
      (a.inFlight.filter fun g => decide (g.itag ≠ itag)).map fun g => (g.itag, g.seq, g.orphaned) := by
  rw [h.entries, List.filter_map]
  rfl

/-- The response to an orphaned apply write takes its entry away and finishes no record (R150). -/
theorem Apl.Sound.answer_orphaned {a : Apl} {e : Seq} {parts : List (ITag × Seq × Bool)} (h : a.Sound e parts)
    (htags : (parts.map Prod.fst).Nodup) {f : AplEntry} (hf : f ∈ a.inFlight) (ho : f.orphaned = true) :
    Apl.Sound { a with inFlight := a.inFlight.filter fun g => decide (g.itag ≠ f.itag) } e
      (parts.filter fun p => decide (p.1 ≠ f.itag)) := by
  obtain ⟨⟨hseqs, hexp, hlen, hbytes⟩, ⟨hissued, hbefore, hafter⟩, hin⟩ := h
  refine ⟨⟨hseqs, hexp, hlen, hbytes⟩, ⟨hissued, hbefore, hafter⟩, hin.entries_remove f.itag, ?_⟩
  rw [← hin.records]
  dsimp only
  rw [List.filter_comm, List.filter_eq_self.2]
  intro g hg
  obtain ⟨hg, hgo⟩ := List.mem_filter.1 hg
  rw [decide_eq_true_eq]
  intro heq
  rw [hin.tag_inj htags hf hg heq, ho] at hgo
  cases hgo

/-- The response to an apply write of this session takes its entry away and makes its record DONE (R146). -/
theorem Apl.Sound.answer {a : Apl} {e : Seq} {parts : List (ITag × Seq × Bool)} (h : a.Sound e parts)
    (htags : (parts.map Prod.fst).Nodup) {f : AplEntry} (hf : f ∈ a.inFlight) (ho : f.orphaned = false) :
    Apl.Sound { a with
      inFlight := a.inFlight.filter fun g => decide (g.itag ≠ f.itag)
      queue := setApplyState f.seq .done a.queue } e (parts.filter fun p => decide (p.1 ≠ f.itag)) := by
  obtain ⟨hqueue, ⟨hissued, hbefore, hafter⟩, hin⟩ := h
  have hlive : f ∈ a.inFlight.filter fun g => !g.orphaned := List.mem_filter.2 ⟨hf, by simp [ho]⟩
  have hseqs : ((a.inFlight.filter fun g => !g.orphaned).map AplEntry.seq).Nodup := by
    rw [hin.records]
    exact hqueue.nodup.sublist (List.filter_sublist.map _)
  have hrecord : ∃ r ∈ a.queue, r.state = .inFlight ∧ r.seq = f.seq := by
    have hmem := List.mem_map_of_mem (f := AplEntry.seq) hlive
    rw [hin.records] at hmem
    obtain ⟨r, hr, hseq⟩ := List.mem_map.1 hmem
    obtain ⟨hr, hst⟩ := List.mem_filter.1 hr
    exact ⟨r, hr, by simpa using hst, hseq⟩
  refine ⟨⟨by simpa [setApplyState_seqs] using hqueue.seqs, by simpa [setApplyState_length] using hqueue.expected,
    by simpa [setApplyState_length] using hqueue.records, by simpa [setApplyState_bytes] using hqueue.bytes⟩,
    ⟨?_, ?_, ?_⟩, hin.entries_remove f.itag, ?_⟩
  · rw [setApplyState_length]
    exact hissued
  · intro x hx
    simp only [setApplyState, ← List.map_take, List.mem_map] at hx
    obtain ⟨y, hy, rfl⟩ := hx
    split
    · simp
    · exact hbefore y hy
  · intro x hx
    simp only [setApplyState, ← List.map_drop, List.mem_map] at hx
    obtain ⟨y, hy, rfl⟩ := hx
    have hwaiting := hafter y hy
    split
    · next heq =>
      obtain ⟨r, hr, hst, hseq⟩ := hrecord
      rw [hqueue.seq_inj (List.mem_of_mem_drop hy) hr (heq.trans hseq.symm), hst] at hwaiting
      cases hwaiting
    · exact hwaiting
  · rw [setApplyState_done_inFlight, ← hin.records, List.filter_comm, List.filter_map]
    congr 1
    refine List.filter_congr fun g hg => decide_eq_decide.2 (not_congr ⟨fun heq => ?_, fun heq => ?_⟩)
    · rw [hin.tag_inj htags hf (List.mem_filter.1 hg).1 heq]
    · rw [List.inj_on_of_nodup_map hseqs hg hlive heq]

/-! ### New records and a NEW session (R135, R150) -/

theorem applyRecords_length (q : Seq) (ws : List WireRecord) : (applyRecords q ws).length = ws.length := by
  induction ws generalizing q with
  | nil => rfl
  | cons w ws ih => simp [applyRecords, ih]

theorem applyRecords_seqs (q : Seq) (ws : List WireRecord) :
    seqRun q ((applyRecords q ws).map ApplyRec.seq) = true := by
  induction ws generalizing q with
  | nil => rfl
  | cons w ws ih => simpa [applyRecords, seqRun] using ih (q + 1)

theorem applyRecords_bytes (q : Seq) (ws : List WireRecord) :
    applyBytesOf (applyRecords q ws) = (ws.map fun w => ceil16 w.length).sum := by
  unfold applyBytesOf
  induction ws generalizing q with
  | nil => rfl
  | cons w ws ih => simp [applyRecords, ih]

theorem applyRecords_waiting (q : Seq) (ws : List WireRecord) : ∀ r ∈ applyRecords q ws, r.state = .waiting := by
  induction ws generalizing q with
  | nil => simp [applyRecords]
  | cons w ws ih =>
    intro r hr
    rcases List.mem_cons.1 hr with rfl | hr
    · rfl
    · exact ih _ r hr

/-- New records that fit join the tail of the queue WAITING, and E moves past them. -/
theorem Apl.Sound.accept {a : Apl} {e : Seq} {parts : List (ITag × Seq × Bool)} (h : a.Sound e parts)
    {new : List WireRecord} (hfits : a.fits new = true) :
    Apl.Sound { a with queue := a.queue ++ applyRecords e new } (e + BitVec.ofNat 32 new.length) parts := by
  obtain ⟨⟨hseqs, hexp, hlen, hbytes⟩, ⟨hissued, hbefore, hafter⟩, hent, hrec⟩ := h
  simp only [Apl.fits, decide_eq_true_eq] at hfits
  have hsum : ∀ l m : List ApplyRec, applyBytesOf (l ++ m) = applyBytesOf l + applyBytesOf m := by
    intro l m; simp [applyBytesOf]
  have hissued' : Apl.issued { a with queue := a.queue ++ applyRecords e new } = a.issued := rfl
  refine ⟨⟨?_, ?_, ?_, ?_⟩, ⟨?_, ?_, ?_⟩, hent, ?_⟩
  · simp only [List.map_append, seqRun_append, Bool.and_eq_true, List.length_map, ← hexp]
    exact ⟨hseqs, applyRecords_seqs e new⟩
  · simp only [List.length_append, applyRecords_length, BitVec.ofNat_add, ← BitVec.add_assoc, ← hexp]
  · simpa [applyRecords_length] using hfits.1
  · simpa [hsum, applyRecords_bytes] using hfits.2
  · rw [hissued']; simp only [List.length_append]; omega
  · rw [hissued', List.take_append_of_le_length hissued]
    exact hbefore
  · rw [hissued', List.drop_append_of_le_length hissued]
    intro r hr
    rcases List.mem_append.1 hr with hr | hr
    · exact hafter r hr
    · exact applyRecords_waiting e new r hr
  · have hnone : ((applyRecords e new).filter fun r => decide (r.state = .inFlight)) = [] := by
      rw [List.filter_eq_nil_iff]
      intro r hr
      simp [applyRecords_waiting e new r hr]
    simp only [List.filter_append, hnone, List.append_nil]
    exact hrec

/-- A NEW session empties the queue and orphans every write in flight. -/
theorem Apl.Sound.newSession {a : Apl} {e : Seq} {parts : List (ITag × Seq × Bool)} (h : a.Sound e parts) :
    a.newSession.Sound 0 (parts.map fun p => (p.1, p.2.1, true)) := by
  refine ⟨⟨rfl, rfl, by simp [Apl.newSession], by simp [Apl.newSession, applyBytesOf]⟩,
    ⟨by simp [Apl.newSession, Apl.issued], by simp [Apl.newSession], by simp [Apl.newSession]⟩, ?_, ?_⟩
  · rw [h.inFlight.entries]; simp [Apl.newSession]
  · simp [Apl.newSession]

/-! ### The port's part under changes of its entries -/

theorem Dnp.newSession_aplParts (d : Dnp) :
    Dnp.aplParts { d with outstanding := d.outstanding.map OutEntry.newSession } =
      d.aplParts.map fun p => (p.1, p.2.1, true) := by
  rw [Dnp.aplParts, Dnp.aplParts, List.filterMap_map, List.map_filterMap]
  refine List.filterMap_congr fun e _ => ?_
  obtain ⟨itag, owner, ab⟩ := e
  cases owner <;> rfl

theorem Dnp.hostBusReset_aplParts (d : Dnp) :
    Dnp.aplParts { d with outstanding := d.outstanding.map OutEntry.hostBusReset } = d.aplParts := by
  rw [Dnp.aplParts, Dnp.aplParts, List.filterMap_map]
  refine List.filterMap_congr fun e _ => ?_
  obtain ⟨itag, owner, ab⟩ := e
  cases owner <;> rfl

theorem OutEntry.aplPart_some {e : OutEntry} {p : ITag × Seq × Bool} (h : e.aplPart = some p) : p.1 = e.itag := by
  obtain ⟨itag, owner, ab⟩ := e
  cases owner <;> simp [OutEntry.aplPart] at h
  rw [← h]

/-- An entry that leaves the port leaves the apply engine's part of it. -/
theorem Dnp.remove_aplParts (d : Dnp) (itag : ITag) :
    Dnp.aplParts { d with outstanding := d.outstanding.filter fun f => decide (f.itag ≠ itag) } =
      d.aplParts.filter fun p => decide (p.1 ≠ itag) := by
  rw [Dnp.aplParts, Dnp.aplParts, List.filter_filterMap, List.filterMap_filter]
  refine List.filterMap_congr fun e _ => ?_
  cases hp : e.aplPart with
  | none => simp
  | some p =>
    have := OutEntry.aplPart_some hp
    by_cases hi : e.itag = itag <;> simp [hi, this, Option.filter]

/-- Internal tags are unique among the parts as they are at the port (R24). -/
theorem Dnp.aplParts_nodup {d : Dnp} (h : (d.outstanding.map OutEntry.itag).Nodup) :
    (d.aplParts.map Prod.fst).Nodup := by
  refine h.sublist ?_
  rw [Dnp.aplParts, List.map_filterMap]
  have hsub : ∀ l : List OutEntry,
      List.Sublist (l.filterMap fun e => e.aplPart.map Prod.fst) (l.map OutEntry.itag) := by
    intro l
    induction l with
    | nil => exact .slnil
    | cons e l ih =>
      cases hp : e.aplPart with
      | none => simpa [hp] using ih.cons e.itag
      | some p => simpa [hp, OutEntry.aplPart_some hp] using ih
  exact hsub d.outstanding

/-- The port's law says that internal tags are unique (R24). -/
theorem Dnp.nodup_of_law {d : Dnp} (h : d.outstandingLaw = true) : (d.outstanding.map OutEntry.itag).Nodup := by
  simp only [Dnp.outstandingLaw, Bool.and_eq_true, decide_eq_true_eq] at h
  exact h.1.1.1

end Sys2Proof.Machine

namespace Sys2Proof.Machine

/-! ### What a command may do to the table, the settings and the apply engine -/

/-- What `t` is to `s` when a command has led there that loads no setting and enables no region: the table follows,
the settings stay, and the apply engine's law is kept. -/
structure State.Keeps (s t : State) : Prop where
  table : s.rgt.Follows t.rgt
  params : t.lnc.params = s.lnc.params
  settings : t.jnl.settings = s.jnl.settings
  apply : s.dnp.outstandingLaw = true → s.applyLaw = true → t.applyLaw = true

theorem State.Quiet.keeps {s t : State} (h : s.Quiet t) : s.Keeps t :=
  ⟨h.table, h.params, h.settings, fun _ hs => by
    rw [State.applyLaw_congr h.apl h.expected h.parts]; exact hs⟩

theorem State.Keeps.refl (s : State) : s.Keeps s := (State.Quiet.refl s).keeps

theorem State.Keeps.quiet {s t u : State} (h : s.Keeps t) (k : t.Quiet u) : s.Keeps u :=
  ⟨h.table.trans k.table, k.params.trans h.params, k.settings.trans h.settings, fun hd hs => by
    rw [State.applyLaw_congr k.apl k.expected k.parts]; exact h.apply hd hs⟩

/-- After a quiet operation that leaves the port alone. -/
theorem State.Quiet.then_keeps {s t u : State} (h : s.Quiet t) (hd : t.dnp = s.dnp) (k : t.Keeps u) : s.Keeps u :=
  ⟨h.table.trans k.table, k.params.trans h.params, k.settings.trans h.settings, fun hs ha => by
    rw [← State.applyLaw_congr h.apl h.expected h.parts] at ha
    exact k.apply (hd ▸ hs) ha⟩

/-! ### The reactions that follow an event -/

theorem State.acceptPresented_quiet (s : State) : s.Quiet s.acceptPresented := .of_rgt (by simp)

theorem State.stallCheck_quiet (s : State) : s.Quiet s.stallCheck := .of_table s.stallCheck_follows (by simp)

theorem State.sweepTake_quiet (s : State) : s.Quiet s.sweepTake := .of_rgt (by simp)

theorem State.dwellCheck_quiet (s : State) : s.Quiet s.dwellCheck := .of_rgt (by simp)

theorem State.sendWanted_quiet (s : State) : s.Quiet s.sendWanted := .of_rgt (by simp)

/-- What finishing at issue can do: nothing, or pass the record at the issue point as DONE (R143, R144). -/
theorem State.finishAtIssue_cases (s : State) :
    s.finishAtIssue = s ∨
      (∃ rec, s.apl.atIssue = some rec) ∧ s.finishAtIssue.apl = s.apl.passIssue .done := by
  unfold State.finishAtIssue State.classifyIssue
  cases h : s.apl.atIssue with
  | none => exact .inl rfl
  | some rec =>
    dsimp only
    by_cases hv : rec.kind = .void
    · exact .inr ⟨⟨rec, rfl⟩, by rw [if_pos hv]⟩
    · rw [if_neg hv]
      cases s.lookupTarget rec.remoteAddr with
      | none => exact .inr ⟨⟨rec, rfl⟩, rfl⟩
      | some x => exact .inl rfl

theorem State.finishAtIssue_applyLaw (s : State) (h : s.applyLaw = true) : s.finishAtIssue.applyLaw = true := by
  rcases s.finishAtIssue_cases with heq | ⟨⟨rec, hrec⟩, hapl⟩
  · rw [heq]; exact h
  · rw [State.applyLaw_iff] at h ⊢
    rw [hapl]
    simpa using h.finish hrec

theorem finishRun_applyLaw (n : Nat) (s : State) (h : s.applyLaw = true) : (finishRun n s).applyLaw = true := by
  induction n generalizing s with
  | zero => exact h
  | succ n ih => exact ih s.finishAtIssue (s.finishAtIssue_applyLaw h)

theorem State.applyRun_applyLaw (s : State) (h : s.applyLaw = true) : s.applyRun.applyLaw = true := by
  have hrun := finishRun_applyLaw s.apl.queue.length s h
  rw [State.applyLaw_iff] at hrun ⊢
  exact hrun.advance

theorem State.Keeps.applyRun {s t : State} (h : s.Keeps t) : s.Keeps t.applyRun :=
  ⟨by simpa using h.table, by simpa using h.params, by simpa using h.settings,
    fun hd hs => t.applyRun_applyLaw (h.apply hd hs)⟩

/-- What follows an event keeps what the event kept. -/
theorem State.Keeps.settle {s t : State} (h : s.Keeps t) : s.Keeps t.settle := by
  have h2 : s.Keeps t.acceptPresented.stallCheck :=
    (h.quiet t.acceptPresented_quiet).quiet t.acceptPresented.stallCheck_quiet
  have h3 := h2.applyRun
  exact ((h3.quiet (State.sweepTake_quiet _)).quiet (State.dwellCheck_quiet _)).quiet (State.sendWanted_quiet _)

/-- An event keeps what its effect keeps. -/
theorem State.event_keeps {f : State → Option State} {r s : State} (hs : r.Keeps s)
    (hf : ∀ t, f s = some t → r.Keeps t) : r.Keeps (s.event f) := by
  unfold State.event
  split
  · exact hs
  · cases hft : f s with
    | none => exact hs
    | some t => exact (hf t hft).settle

/-- An event whose effect is quiet. -/
theorem State.event_quiet {f : State → Option State} {s : State} (hf : ∀ t, f s = some t → s.Quiet t) :
    s.Keeps (s.event f) :=
  State.event_keeps (.refl s) fun t ht => (hf t ht).keeps

/-! ### The memory path -/

theorem State.answerMalformed_quiet (s t : State) (h : s.answerMalformed = some t) : s.Quiet t := by
  unfold State.answerMalformed at h
  split at h
  · cases h
  · split at h
    · cases h; exact .of_rgt (by simp)
    · cases h

theorem State.sendResponse_quiet (tag : Tag) (s t : State) (h : s.sendResponse tag = some t) : s.Quiet t := by
  unfold State.sendResponse at h
  split at h <;> cases h
  exact .of_rgt (by simp)

/-- An entry that is not APL's adds nothing to the apply engine's part of the port. -/
theorem State.issue_quiet (q : Requester) (itag : ITag) (owner : Owner) (a : Addr) (b : BusBody) (s : State)
    (h : owner.requester ≠ .apl) : s.Quiet (s.issue q itag owner a b) := by
  refine ⟨.refl _, rfl, rfl, rfl, rfl, ?_⟩
  cases owner with
  | apl q => exact absurd rfl h
  | up tag path => simp [State.issue, Dnp.aplParts, OutEntry.aplPart]
  | swp q => simp [State.issue, Dnp.aplParts, OutEntry.aplPart]

theorem State.grantUp_quiet (itag : ITag) (s t : State) (h : s.grantUp itag = some t) : s.Quiet t := by
  unfold State.grantUp at h
  split at h
  · split at h
    · cases h
    · next r rest _ =>
      have hpop : s.Quiet s.popHead := .of_rgt (by simp)
      have hclass := hpop.trans (s.popHead.applyClass_quiet (s.classify r) r)
      split at h
      · next u path heq =>
        rw [heq] at hclass
        split at h
        · cases h
          exact hclass.trans (State.issue_quiet _ _ _ _ _ _ (by simp [Owner.requester]))
        · cases h
      · next u heq =>
        rw [heq] at hclass
        cases h
        exact hclass.trans ⟨.refl _, rfl, rfl, rfl, rfl, rfl⟩
  · cases h

theorem State.classifyIssue_mapped {s : State} {rec : ApplyRec} {x : RegionIx}
    (h : s.classifyIssue = .mapped rec x) : s.apl.atIssue = some rec := by
  unfold State.classifyIssue at h
  split at h
  · cases h
  · next hrec =>
    split at h
    · cases h
    · split at h <;> cases h
      exact hrec

theorem State.grantApl_keeps (itag : ITag) (s t : State) (h : s.grantApl itag = some t) : s.Keeps t := by
  unfold State.grantApl at h
  split at h
  · split at h
    · next rec x hclass =>
      cases h
      refine ⟨by simp, by simp, by simp, fun _ hs => ?_⟩
      rw [State.applyLaw_iff] at hs ⊢
      have := hs.grant (State.classifyIssue_mapped hclass) itag x
      simpa [State.issue, Dnp.aplParts, OutEntry.aplPart] using this
    · cases h
  · cases h

theorem State.grantSwp_quiet (itag : ITag) (s t : State) (h : s.grantSwp itag = some t) : s.Quiet t := by
  unfold State.grantSwp at h
  split at h
  · split at h
    · cases h
      refine .trans (.of_rgt (by simp)) (State.issue_quiet _ _ _ _ _ _ (by simp [Owner.requester]))
    · cases h
  · cases h

end Sys2Proof.Machine

namespace Sys2Proof.Machine

/-! ### Responses from memory -/

theorem State.upAnswer_quiet (tag : Tag) (path : UpPath) (st : BusStatus) (data : List Byte) (s : State) :
    s.Quiet (s.upAnswer tag path st data) := by
  unfold State.upAnswer State.localFault
  cases path with
  | captured held => cases held <;> cases st <;> exact .of_rgt (by simp)
  | _ => exact .of_rgt (by simp)

theorem State.upAbandoned_quiet (path : UpPath) (st : BusStatus) (s : State) : s.Quiet (s.upAbandoned path st) := by
  unfold State.upAbandoned State.localFault
  cases path with
  | captured held => cases st <;> exact .of_rgt (by simp)
  | _ => exact .of_rgt (by simp)

/-- A response to a transaction of UP or SWP delivers nothing to the apply engine. -/
theorem State.deliver_quiet (e : OutEntry) (st : BusStatus) (data : List Byte) (s : State)
    (h : e.owner.requester ≠ .apl) : s.Quiet (s.deliver e st data) := by
  unfold State.deliver
  split
  · split
    · exact State.upAbandoned_quiet _ st s
    · exact State.upAnswer_quiet _ _ st data s
  · next q heq => exact absurd (by rw [heq]; rfl) h
  · split
    · exact .refl s
    · exact State.sweepAnswer_quiet _ st _ s

/-- The response to an apply write: its in-flight entry leaves, and its record is DONE unless orphaned. -/
theorem State.applyAnswer_apl {itag : ITag} {st : BusStatus} {s : State} {e : AplEntry}
    (h : s.apl.inFlight.find? (fun e => decide (e.itag = itag)) = some e) :
    (s.applyAnswer itag st).apl = { s.apl with
      inFlight := s.apl.inFlight.filter fun f => decide (f.itag ≠ itag)
      queue := if e.orphaned then s.apl.queue else setApplyState e.seq .done s.apl.queue } := by
  simp only [State.applyAnswer, h]
  cases st <;> simp [State.countApply]

theorem State.applyAnswer_keepsSettings (itag : ITag) (st : BusStatus) (s : State) :
    (s.applyAnswer itag st).lnc.params = s.lnc.params ∧ (s.applyAnswer itag st).jnl.settings = s.jnl.settings := by
  simp

/-- Taking one entry of the port away, without its owner, keeps what APL has there if the entry is not APL's. -/
theorem Dnp.remove_aplParts_of_other {d : Dnp} {e : OutEntry} (hnd : (d.outstanding.map OutEntry.itag).Nodup)
    (he : e ∈ d.outstanding) (hpart : e.aplPart = none) :
    Dnp.aplParts { d with outstanding := d.outstanding.filter fun f => decide (f.itag ≠ e.itag) } = d.aplParts := by
  rw [Dnp.remove_aplParts, List.filter_eq_self]
  intro p hp
  obtain ⟨f, hf, hfp⟩ := List.mem_filterMap.1 hp
  rw [OutEntry.aplPart_some hfp, decide_eq_true_eq]
  intro heq
  rw [List.inj_on_of_nodup_map hnd hf he heq, hpart] at hfp
  cases hfp

/-- The state with the entry of an internal tag gone from the port (R28). -/
def State.entryTaken (itag : ITag) (s : State) : State :=
  { s with dnp := { s.dnp with outstanding := s.dnp.outstanding.filter fun f => decide (f.itag ≠ itag) } }

/-- A response that matches an entry takes the entry away and is delivered by it (R28). -/
theorem State.takeDownstream_some {itag : ITag} {s : State} {e : OutEntry} (st : BusStatus) (data : List Byte)
    (h : s.dnp.outstanding.find? (fun e => decide (e.itag = itag)) = some e) :
    s.takeDownstream itag st data = some ((s.entryTaken itag).deliver e st data) := by
  simp [State.takeDownstream, h, State.entryTaken]

/-- The response to a transaction of UP or SWP. -/
theorem State.deliver_keeps_other {s : State} {e : OutEntry} (st : BusStatus) (data : List Byte)
    (hmem : e ∈ s.dnp.outstanding) (howner : e.owner.requester ≠ .apl) :
    s.Keeps ((s.entryTaken e.itag).deliver e st data) := by
  have hq := (s.entryTaken e.itag).deliver_quiet e st data howner
  have hpart : e.aplPart = none := by
    unfold OutEntry.aplPart
    cases h : e.owner <;> simp [h, Owner.requester] at howner ⊢
  refine ⟨(s.entryTaken e.itag).deliver_follows e st data, hq.params, hq.settings, fun hd hs => ?_⟩
  have hparts := Dnp.remove_aplParts_of_other (Dnp.nodup_of_law hd) hmem hpart
  rw [State.applyLaw_congr (s := s) hq.apl hq.expected (hq.parts.trans hparts)]
  exact hs

/-- The response to an apply write. -/
theorem State.deliver_keeps_apl {s : State} {e : OutEntry} (st : BusStatus) (data : List Byte)
    (hmem : e ∈ s.dnp.outstanding) {q : Seq} (howner : e.owner = .apl q) :
    s.Keeps ((s.entryTaken e.itag).deliver e st data) := by
  have hdeliver : (s.entryTaken e.itag).deliver e st data = (s.entryTaken e.itag).applyAnswer e.itag st := by
    rw [State.deliver, howner]
  obtain ⟨hparams, hsettings⟩ := (s.entryTaken e.itag).applyAnswer_keepsSettings e.itag st
  rw [hdeliver]
  refine ⟨(s.entryTaken e.itag).applyAnswer_follows e.itag st, hparams, hsettings, fun hd hs => ?_⟩
  have htags := Dnp.aplParts_nodup (Dnp.nodup_of_law hd)
  rw [State.applyLaw_iff] at hs ⊢
  have hpart : (e.itag, q, e.abandoned) ∈ s.dnp.aplParts :=
    List.mem_filterMap.2 ⟨e, hmem, by simp [OutEntry.aplPart, howner]⟩
  rw [hs.inFlight.entries] at hpart
  obtain ⟨f, hf, hfe⟩ := List.mem_map.1 hpart
  have hftag : f.itag = e.itag := congrArg Prod.fst hfe
  have hfind : (s.entryTaken e.itag).apl.inFlight.find? (fun g => decide (g.itag = e.itag)) = some f := by
    cases hg : (s.entryTaken e.itag).apl.inFlight.find? (fun g => decide (g.itag = e.itag)) with
    | none => exact absurd hftag (by simpa using List.find?_eq_none.1 hg f hf)
    | some g =>
      have hgtag : g.itag = e.itag := by simpa using List.find?_some hg
      rw [hs.inFlight.tag_inj htags hf (List.mem_of_find?_eq_some hg) (hgtag.trans hftag.symm)]
  have hparts : (s.entryTaken e.itag).dnp.aplParts = s.dnp.aplParts.filter fun p => decide (p.1 ≠ f.itag) := by
    rw [hftag]
    exact s.dnp.remove_aplParts e.itag
  rw [State.applyAnswer_apl hfind, State.applyAnswer_dnp, hparts, State.applyAnswer_frx, ← hftag]
  cases ho : f.orphaned with
  | true => exact hs.answer_orphaned htags hf ho
  | false => exact hs.answer htags hf ho

theorem State.takeDownstream_keeps (itag : ITag) (st : BusStatus) (data : List Byte) (s t : State)
    (h : s.takeDownstream itag st data = some t) : s.Keeps t := by
  cases hfind : s.dnp.outstanding.find? (fun e => decide (e.itag = itag)) with
  | none => simp [State.takeDownstream, hfind] at h
  | some e =>
    rw [State.takeDownstream_some st data hfind, Option.some.injEq] at h
    have hitag : e.itag = itag := by simpa using List.find?_some hfind
    have hmem := List.mem_of_find?_eq_some hfind
    subst hitag h
    cases howner : e.owner with
    | apl q => exact State.deliver_keeps_apl st data hmem howner
    | up tag path => exact State.deliver_keeps_other st data hmem (by simp [howner, Owner.requester])
    | swp q => exact State.deliver_keeps_other st data hmem (by simp [howner, Owner.requester])

end Sys2Proof.Machine

namespace Sys2Proof.Machine

/-! ### Timers of the memory path -/

theorem State.reach_quiet (n : Nat) (s : State) : s.Quiet (s.reach n) := .of_rgt (by simp)

theorem State.expireStall_quiet (s t : State) (h : s.expireStall = some t) : s.Quiet t := by
  unfold State.expireStall at h
  split at h
  · cases h
  · split at h
    · cases h
    · dsimp only at h
      split at h <;> cases h
      · exact .of_rgt (by simp)
      · exact .trans (.of_rgt (by simp)) (State.stallActions_quiet _ _)

theorem State.deadlineExpires_quiet (tag : Tag) (s t : State) (h : s.deadlineExpires tag = some t) : s.Quiet t := by
  unfold State.deadlineExpires at h
  split at h
  · cases h
  · split at h <;> cases h
    exact (s.reach_quiet _).trans (State.expireHold_quiet tag _)

/-! ### This node's turns -/

theorem State.setLink_quiet (l : Link) (s : State) : s.Quiet (s.setLink l) := .of_rgt (by simp)

theorem State.answerOpportunity_quiet (u : Turn) (s : State) : s.Quiet (s.answerOpportunity u) := by
  unfold State.answerOpportunity
  dsimp only
  split
  · split
    · exact s.goDown_quiet _
    · exact .of_rgt (by simp)
  · exact .of_rgt (by simp)

theorem State.afterFrame_quiet (f : TxFrame) (s : State) : s.Quiet (s.afterFrame f) := by
  unfold State.afterFrame
  split
  · exact s.setLink_quiet _
  · split
    · exact s.setLink_quiet _
    · exact .refl s
  · exact .of_rgt (by simp)
  · exact .refl s
  · exact .refl s
  · exact .refl s

theorem State.completeFrame_quiet (s t : State) (h : s.completeFrame = some t) : s.Quiet t := by
  unfold State.completeFrame at h
  split at h <;> cases h
  exact .trans (.of_rgt (by simp)) (State.afterFrame_quiet _ _)

theorem State.collide_quiet (s t : State) (h : s.collide = some t) : s.Quiet t := by
  unfold State.collide at h
  split at h <;> cases h
  have hcounted : ∀ l, s.Quiet ((s.cutFrame.lineContested.count .collisions).setLink l) := fun _ => .of_rgt (by simp)
  split
  · unfold State.backOff
    split <;> exact (hcounted _).trans (State.setLink_quiet _ _)
  · exact (hcounted _).trans (State.goDown_quiet _ _)

theorem State.expireGuard_quiet (s t : State) (h : s.expireGuard = some t) : s.Quiet t := by
  unfold State.expireGuard at h
  split at h
  · cases h
  · split at h <;> cases h
    exact .of_rgt (by simp)

theorem State.expireDwell_quiet (s t : State) (h : s.expireDwell = some t) : s.Quiet t := by
  unfold State.expireDwell at h
  split at h
  · cases h
  · split at h <;> cases h
    exact .of_rgt (by simp)

theorem State.expireSilence_quiet (s t : State) (h : s.expireSilence = some t) : s.Quiet t := by
  unfold State.expireSilence at h
  split at h
  · cases h
  · split at h <;> cases h
    have hcounted : ∀ n l, s.Quiet (((s.reach n).count .missedTurns).setLink l) := fun _ _ => .of_rgt (by simp)
    split
    · exact (hcounted _ _).trans (State.setLink_quiet _ _)
    · exact (hcounted _ _).trans (State.goDown_quiet _ _)

/-! ### The peer's frames -/

theorem State.detectMark_quiet (s t : State) (h : s.detectMark = some t) : s.Quiet t := by
  unfold State.detectMark at h
  split at h
  · cases h
  · split at h
    · cases h; exact .of_rgt (by simp)
    · dsimp only at h
      split at h <;> cases h <;> exact .of_rgt (by simp)

theorem State.headerAck_quiet (h : Header) (s : State) : s.Quiet (s.headerAck h) := by
  unfold State.headerAck
  split <;> exact .of_rgt (by simp)

theorem State.headerTurn_quiet (h : Header) (s : State) : s.Quiet (s.headerTurn h) := by
  unfold State.headerTurn
  split
  · split
    · exact s.setLink_quiet _
    · exact .refl s
  · exact .refl s

theorem State.sweepAplAck_quiet (p : Seq) (s : State) : s.Quiet (s.sweepAplAck p) :=
  .of_table (s.sweepAplAck_follows p) (by simp)

theorem State.holdsAplAck_quiet (p : Seq) (s : State) : s.Quiet (s.holdsAplAck p) := .of_rgt (by simp)

theorem State.acksOfHeader_quiet (h : Header) (s : State) : s.Quiet (s.acksOfHeader h) := by
  have hconfirm : s.Quiet s.confirmSession := ⟨.refl _, rfl, rfl, rfl, rfl, rfl⟩
  exact (((hconfirm.trans (State.headerAck_quiet h _)).trans (State.holdsAplAck_quiet _ _)).trans
    (State.sweepAplAck_quiet _ _)).trans (State.headerTurn_quiet h _)

theorem State.actOnHeader_quiet (h : Header) (s : State) : s.Quiet (s.actOnHeader h) := by
  unfold State.actOnHeader
  split
  · split
    · exact s.acksOfHeader_quiet h
    · exact s.acksOfHeader_quiet h
    · split
      · exact .refl s
      · exact s.goDown_quiet _
    · exact .refl s
    · exact .refl s
  · exact .refl s

theorem State.receiveHeader_quiet (bytes : List Byte) (s t : State) (h : s.receiveHeader bytes = some t) :
    s.Quiet t := by
  unfold State.receiveHeader at h
  split at h
  · split at h <;> cases h
    · exact .trans (.of_rgt (by simp)) (State.actOnHeader_quiet _ _)
    · exact .of_rgt (by simp)
  · cases h

theorem State.acceptRecords_keeps {s : State} {new : List WireRecord} (h : s.apl.fits new = true) :
    s.Keeps (s.acceptRecords new) := by
  refine ⟨.refl _, rfl, rfl, fun _ hs => ?_⟩
  rw [State.applyLaw_iff] at hs ⊢
  exact hs.accept h

theorem State.raiseNak_quiet (reason : NakReason) (s : State) : s.Quiet (s.raiseNak reason) := .of_rgt (by simp)

theorem State.acceptData_keeps (h : Header) (body : List Byte) (s : State) : s.Keeps (s.acceptData h body) := by
  unfold State.acceptData
  split
  · exact State.Quiet.keeps (.of_rgt (by simp))
  · split
    · exact State.Quiet.keeps (.of_rgt (by simp))
    · unfold State.acceptInOrder
      dsimp only
      split
      · exact (s.raiseNak_quiet _).keeps
      · split
        · exact State.Quiet.keeps (.of_rgt (by simp))
        · split
          · next hfits => exact State.acceptRecords_keeps hfits
          · exact (s.raiseNak_quiet _).keeps

/-! ### What the passes of a NEW session leave alone (R13, R72, R90) -/

@[simp] theorem State.holdsNew_dnp (s : State) : s.holdsNew.dnp = s.dnp :=
  foldl_keeps (fun t (h : Hold) => t.expireHold h.tag) State.dnp (fun t h => State.expireHold_dnp h.tag t) _ s
@[simp] theorem State.holdsNew_jnl (s : State) : s.holdsNew.jnl = s.jnl :=
  foldl_keeps (fun t (h : Hold) => t.expireHold h.tag) State.jnl (fun t h => State.expireHold_jnl h.tag t) _ s
@[simp] theorem State.holdsNew_swp (s : State) : s.holdsNew.swp = s.swp :=
  foldl_keeps (fun t (h : Hold) => t.expireHold h.tag) State.swp (fun t h => State.expireHold_swp h.tag t) _ s
@[simp] theorem State.holdsNew_ftx (s : State) : s.holdsNew.ftx = s.ftx :=
  foldl_keeps (fun t (h : Hold) => t.expireHold h.tag) State.ftx (fun t h => State.expireHold_ftx h.tag t) _ s
@[simp] theorem State.holdsNew_frx (s : State) : s.holdsNew.frx = s.frx :=
  foldl_keeps (fun t (h : Hold) => t.expireHold h.tag) State.frx (fun t h => State.expireHold_frx h.tag t) _ s
@[simp] theorem State.holdsNew_apl (s : State) : s.holdsNew.apl = s.apl :=
  foldl_keeps (fun t (h : Hold) => t.expireHold h.tag) State.apl (fun t h => State.expireHold_apl h.tag t) _ s
@[simp] theorem State.holdsNew_now (s : State) : s.holdsNew.now = s.now :=
  foldl_keeps (fun t (h : Hold) => t.expireHold h.tag) State.now (fun t h => State.expireHold_now h.tag t) _ s
@[simp] theorem State.holdsNew_inReset (s : State) : s.holdsNew.inReset = s.inReset :=
  foldl_keeps (fun t (h : Hold) => t.expireHold h.tag) State.inReset (fun t h => State.expireHold_inReset h.tag t) _ s
@[simp] theorem State.holdsNew_pending (s : State) : s.holdsNew.pending = s.pending :=
  foldl_keeps (fun t (h : Hold) => t.expireHold h.tag) State.pending (fun t h => State.expireHold_pending h.tag t) _ s

@[simp] theorem State.regionsNewStep1_upi (s : State) : s.regionsNewStep1.upi = s.upi :=
  foldl_keeps (fun t r => t.diverge r) State.upi (fun t r => State.diverge_upi r t) _ s
@[simp] theorem State.regionsNewStep1_dnp (s : State) : s.regionsNewStep1.dnp = s.dnp :=
  foldl_keeps (fun t r => t.diverge r) State.dnp (fun t r => State.diverge_dnp r t) _ s
@[simp] theorem State.regionsNewStep1_jnl (s : State) : s.regionsNewStep1.jnl = s.jnl :=
  foldl_keeps (fun t r => t.diverge r) State.jnl (fun t r => State.diverge_jnl r t) _ s
@[simp] theorem State.regionsNewStep1_hld (s : State) : s.regionsNewStep1.hld = s.hld :=
  foldl_keeps (fun t r => t.diverge r) State.hld (fun t r => State.diverge_hld r t) _ s
@[simp] theorem State.regionsNewStep1_ftx (s : State) : s.regionsNewStep1.ftx = s.ftx :=
  foldl_keeps (fun t r => t.diverge r) State.ftx (fun t r => State.diverge_ftx r t) _ s
@[simp] theorem State.regionsNewStep1_frx (s : State) : s.regionsNewStep1.frx = s.frx :=
  foldl_keeps (fun t r => t.diverge r) State.frx (fun t r => State.diverge_frx r t) _ s
@[simp] theorem State.regionsNewStep1_apl (s : State) : s.regionsNewStep1.apl = s.apl :=
  foldl_keeps (fun t r => t.diverge r) State.apl (fun t r => State.diverge_apl r t) _ s
@[simp] theorem State.regionsNewStep1_now (s : State) : s.regionsNewStep1.now = s.now :=
  foldl_keeps (fun t r => t.diverge r) State.now (fun t r => State.diverge_now r t) _ s
@[simp] theorem State.regionsNewStep1_inReset (s : State) : s.regionsNewStep1.inReset = s.inReset :=
  foldl_keeps (fun t r => t.diverge r) State.inReset (fun t r => State.diverge_inReset r t) _ s
@[simp] theorem State.regionsNewStep1_pending (s : State) : s.regionsNewStep1.pending = s.pending :=
  foldl_keeps (fun t r => t.diverge r) State.pending (fun t r => State.diverge_pending r t) _ s

@[simp] theorem State.regionsNewStep2_upi (s : State) : s.regionsNewStep2.upi = s.upi :=
  foldl_keeps (fun t r => t.autoResync r) State.upi (fun t r => State.autoResync_upi r t) _ s
@[simp] theorem State.regionsNewStep2_dnp (s : State) : s.regionsNewStep2.dnp = s.dnp :=
  foldl_keeps (fun t r => t.autoResync r) State.dnp (fun t r => State.autoResync_dnp r t) _ s
@[simp] theorem State.regionsNewStep2_jnl (s : State) : s.regionsNewStep2.jnl = s.jnl :=
  foldl_keeps (fun t r => t.autoResync r) State.jnl (fun t r => State.autoResync_jnl r t) _ s
@[simp] theorem State.regionsNewStep2_hld (s : State) : s.regionsNewStep2.hld = s.hld :=
  foldl_keeps (fun t r => t.autoResync r) State.hld (fun t r => State.autoResync_hld r t) _ s
@[simp] theorem State.regionsNewStep2_ftx (s : State) : s.regionsNewStep2.ftx = s.ftx :=
  foldl_keeps (fun t r => t.autoResync r) State.ftx (fun t r => State.autoResync_ftx r t) _ s
@[simp] theorem State.regionsNewStep2_frx (s : State) : s.regionsNewStep2.frx = s.frx :=
  foldl_keeps (fun t r => t.autoResync r) State.frx (fun t r => State.autoResync_frx r t) _ s
@[simp] theorem State.regionsNewStep2_apl (s : State) : s.regionsNewStep2.apl = s.apl :=
  foldl_keeps (fun t r => t.autoResync r) State.apl (fun t r => State.autoResync_apl r t) _ s
@[simp] theorem State.regionsNewStep2_mgp (s : State) : s.regionsNewStep2.mgp = s.mgp :=
  foldl_keeps (fun t r => t.autoResync r) State.mgp (fun t r => State.autoResync_mgp r t) _ s
@[simp] theorem State.regionsNewStep2_now (s : State) : s.regionsNewStep2.now = s.now :=
  foldl_keeps (fun t r => t.autoResync r) State.now (fun t r => State.autoResync_now r t) _ s
@[simp] theorem State.regionsNewStep2_inReset (s : State) : s.regionsNewStep2.inReset = s.inReset :=
  foldl_keeps (fun t r => t.autoResync r) State.inReset (fun t r => State.autoResync_inReset r t) _ s
@[simp] theorem State.regionsNewStep2_pending (s : State) : s.regionsNewStep2.pending = s.pending :=
  foldl_keeps (fun t r => t.autoResync r) State.pending (fun t r => State.autoResync_pending r t) _ s

/-- A session decision keeps what the rules keep: a NEW one empties the apply queue (R150), a RESUME leaves it. -/
theorem State.applySession_keeps (d : Decision) (e : Seq) (s : State) : s.Keeps (s.applySession d e) := by
  cases d with
  | resume =>
    refine State.Quiet.keeps ⟨s.applySession_follows .resume e, by simp, ?_, ?_, ?_, ?_⟩ <;>
      simp [State.applySession]
  | newSession =>
    refine ⟨s.applySession_follows .newSession e, by simp, by simp [State.applySession, State.blocksNew],
      fun _ hs => ?_⟩
    rw [State.applyLaw_iff] at hs ⊢
    simpa [State.applySession, State.blocksNew, Dnp.newSession_aplParts] using hs.newSession

/-! ### Training -/

theorem State.recordWindow_quiet (w : Nat) (s : State) : s.Quiet (s.recordWindow w) :=
  ⟨.refl _, rfl, rfl, rfl, rfl, rfl⟩

theorem State.takeReply_keeps (t : Training) (fresh : Bool) (b : HelloBody) (s : State) :
    s.Keeps (s.takeReply t fresh b) := by
  have hdecided := (s.recordWindow_quiet b.window).then_keeps rfl
    (State.applySession_keeps (s.sessionDecision fresh b) b.expected (s.recordWindow b.window))
  unfold State.takeReply
  exact hdecided.quiet (.of_rgt (by simp))

theorem State.helloAtPrimary_keeps (t : Training) (h : Header) (b : HelloBody) (s : State) :
    s.Keeps (s.helloAtPrimary t h b) := by
  unfold State.helloAtPrimary
  split
  · split
    · exact s.takeReply_keeps t h.fresh b
    · exact .refl s
  · exact .refl s
  · exact ((s.recordWindow_quiet b.window).trans (State.goDown_quiet _ _)).keeps
  · exact .refl s

theorem State.helloAtSecondary_keeps (t : Training) (h : Header) (b : HelloBody) (s : State) :
    s.Keeps (s.helloAtSecondary t h b) := by
  unfold State.helloAtSecondary
  split
  · exact ((s.recordWindow_quiet b.window).trans (State.setLink_quiet _ _)).keeps
  · exact .refl s
  · exact .refl s

theorem State.startAtSecondary_keeps (t : Training) (d : Decision) (s : State) :
    s.Keeps (s.startAtSecondary t d) := by
  unfold State.startAtSecondary
  split
  · next e _ _ => exact (s.applySession_keeps d e).quiet (.of_rgt (by simp))
  · exact .refl s

theorem State.trainingFrame_keeps (t : Training) (h : Header) (body : List Byte) (s : State) :
    s.Keeps (s.trainingFrame t h body) := by
  unfold State.trainingFrame
  split
  · split
    · exact .refl s
    · next b _ =>
      split
      · exact s.helloAtPrimary_keeps t h b
      · exact s.helloAtPrimary_keeps t h b
      · exact s.helloAtSecondary_keeps t h b
      · exact s.helloAtSecondary_keeps t h b
      · exact s.helloAtSecondary_keeps t h b
  · split
    · exact .refl s
    · exact s.startAtSecondary_keeps t _
  · exact .refl s
  · exact .refl s
  · exact .refl s

/-! ### The end of a frame -/

theorem State.restartSilence_quiet (s : State) : s.Quiet s.restartSilence := by
  unfold State.restartSilence
  split
  · split
    · exact s.setLink_quiet _
    · exact .refl s
  · exact .refl s

theorem State.handover_quiet (h : Header) (s : State) : s.Quiet (s.handover h) := by
  unfold State.handover
  split
  · split
    · exact s.setLink_quiet _
    · exact .refl s
  · exact .refl s

theorem State.endOfFrame_keeps (h : Header) (rest : List Byte) (s : State) : s.Keeps (s.endOfFrame h rest) := by
  unfold State.endOfFrame
  split
  · split
    · exact (s.acceptData_keeps h rest).quiet (State.handover_quiet h _)
    · exact (s.handover_quiet h).keeps
    · exact .refl s
    · exact .refl s
    · exact .refl s
  · split
    · exact s.trainingFrame_keeps _ h rest
    · exact .refl s
  · exact .refl s
  · exact .refl s

theorem State.lineReturns_quiet (s : State) : s.Quiet s.lineReturns :=
  .trans (t := { s.lineReleased with frx := { s.frx with rx := none } }) (.of_rgt (by simp))
    (State.restartSilence_quiet _)

theorem State.lineReturns_dnp (s : State) : s.lineReturns.dnp = s.dnp := by
  unfold State.lineReturns State.restartSilence
  split
  · split <;> simp
  · simp

theorem State.receiveEnd_keeps (rest : List Byte) (s t : State) (h : s.receiveEnd rest = some t) : s.Keeps t := by
  unfold State.receiveEnd at h
  split at h
  · dsimp only at h
    split at h <;> cases h
    · exact s.lineReturns_quiet.keeps
    · exact (s.lineReturns_quiet.trans (.of_rgt (by simp))).keeps
    · exact s.lineReturns_quiet.keeps
    · exact s.lineReturns_quiet.then_keeps s.lineReturns_dnp (State.endOfFrame_keeps _ rest _)
  · unfold State.unheardEnd at h
    split at h <;> cases h
    exact State.Quiet.keeps (.trans (t := s.lineReleased) (.of_rgt (by simp))
    (State.restartSilence_quiet _))

/-! ### Training timers -/

theorem State.expireRetrain_quiet (s t : State) (h : s.expireRetrain = some t) : s.Quiet t := by
  unfold State.expireRetrain at h
  split at h <;> cases h
  exact .of_rgt (by simp)

theorem State.expireHello_quiet (s t : State) (h : s.expireHello = some t) : s.Quiet t := by
  unfold State.expireHello at h
  split at h
  · cases h
  · split at h <;> cases h
    exact .of_rgt (by simp)

theorem State.expireTrainingGuard_quiet (phase : Phase) (want : TrainFrame) (s t : State)
    (h : s.expireTrainingGuard phase want = some t) : s.Quiet t := by
  unfold State.expireTrainingGuard at h
  split at h
  · cases h
  · split at h
    · cases h
    · split at h <;> cases h
      exact .of_rgt (by simp)

theorem State.expireTraining_quiet (s t : State) (h : s.expireTraining = some t) : s.Quiet t := by
  unfold State.expireTraining at h
  split at h <;> cases h
  exact (s.reach_quiet _).trans (State.goDown_quiet _ _)

/-! ### The reset lines -/

theorem State.hostBusClear_quiet (s : State) : s.Quiet s.hostBusClear :=
  ⟨.refl _, rfl, rfl, rfl, rfl, s.dnp.hostBusReset_aplParts⟩

end Sys2Proof.Machine

namespace Sys2Proof.Machine

/-! ### The management port (R167 to R169) -/

/-- Every state a verdict leads to meets a condition. -/
def Verdict.Leads (P : State → Prop) : Verdict → Prop
  | .refused _ => True
  | .answered _ v => P v
  | .acted v => P v

/-- A transaction keeps a condition that its port's own steps, the reactions and its request keep. -/
theorem State.transaction_leads (P : State → Prop) (hshift : ∀ n m (u : State), P u → P (u.shiftOut n m))
    (hanswer : ∀ st p (u : State), P u → P (u.answer st p)) (hsettle : ∀ u : State, P u → P u.settle)
    (t : Transaction) (len : Nat) (run : List Byte → State → Verdict)
    (hrun : ∀ p u, P u → (run p u).Leads P) (s : State) (hs : P s) : P (s.transaction t len run) := by
  unfold State.transaction
  split
  · exact hs
  · have hu := hshift (t.bytes.length + 1) t.tail.length s hs
    dsimp only
    split
    · exact hanswer _ _ _ hu
    · next p _ =>
      have hv := hrun p _ hu
      split
      · exact hanswer _ _ _ hu
      · next heq => rw [heq] at hv; exact hanswer _ _ _ hv
      · next heq => rw [heq] at hv; exact hsettle _ (hanswer _ _ _ hv)

theorem State.shiftOut_quiet (n m : Nat) (s : State) : s.Quiet (s.shiftOut n m) := ⟨.refl _, rfl, rfl, rfl, rfl, rfl⟩

theorem State.answer_quiet (st : Status) (p : List Byte) (s : State) : s.Quiet (s.answer st p) :=
  ⟨.refl _, rfl, rfl, rfl, rfl, rfl⟩

/-- A transaction whose request is quiet. -/
theorem State.transaction_keeps (t : Transaction) (len : Nat) (run : List Byte → State → Verdict) (s : State)
    (hrun : ∀ p u, (run p u).Leads u.Quiet) : s.Keeps (s.transaction t len run) := by
  refine State.transaction_leads s.Keeps (fun n m u h => h.quiet (u.shiftOut_quiet n m))
    (fun st p u h => h.quiet (u.answer_quiet st p)) (fun u h => h.settle) t len run (fun p u h => ?_) s (.refl s)
  have := hrun p u
  cases hv : run p u with
  | refused st => trivial
  | answered q v => rw [hv] at this; exact h.quiet this
  | acted v => rw [hv] at this; exact h.quiet this

/-- A request on a region. -/
theorem withRegion_leads {P : State → Prop} (p : List Byte) {f : RegionIx → Verdict} (h : ∀ r, (f r).Leads P) :
    (withRegion p f).Leads P := by
  unfold withRegion
  split
  · trivial
  · exact h _

theorem State.regionDisable_quiet (p : List Byte) (s : State) : (s.regionDisable p).Leads s.Quiet := by
  refine withRegion_leads p fun r => ?_
  split
  · exact .refl s
  · exact .of_table (s.setRegion_follows r _ (.state (.inl rfl) (.inr (.inl rfl)))) (by simp)

/-- A live SOURCE entry becomes RESYNCING (R8). -/
theorem State.toResyncing_quiet (r : RegionIx) (s : State) (hsource : (s.region r).fields.direction = .source)
    (hlive : (s.region r).state ≠ .disabled) : s.Quiet (s.toResyncing r) :=
  .of_table (s.setRegion_follows r _ (.state (.inr hlive) (.inl hsource))) (by simp)

theorem State.regionResync_quiet (p : List Byte) (s : State) : (s.regionResync p).Leads s.Quiet := by
  refine withRegion_leads p fun r => ?_
  split
  · next h => exact s.toResyncing_quiet r h.1 (by simp [h.2])
  · trivial

theorem State.regionMode_quiet (p : List Byte) (s : State) : (s.regionMode p).Leads s.Quiet := by
  refine withRegion_leads p fun r => ?_
  split
  · split
    · trivial
    · exact .of_table (s.setMode_follows r _) (by simp)
  · trivial

theorem State.zeroCounter_quiet (c : CounterId) (s : State) : s.Quiet (s.zeroCounter c) := by
  have hzero : ∀ (r : RegionIx) (e : Region), e.fields = (s.region r).fields → e.state = (s.region r).state →
      s.Quiet (s.setRegion r e) := fun r e hf hs =>
    .of_table (s.setRegion_follows r e (.of_same ⟨(s.region r).fields.mode, hf⟩ hs)) (by simp)
  cases c with
  | device k => exact ⟨.refl _, rfl, rfl, rfl, rfl, rfl⟩
  | captured r => exact hzero r _ rfl rfl
  | stray r => exact hzero r _ rfl rfl
  | applied r => exact hzero r _ rfl rfl

theorem State.zeroAll_quiet (s : State) : s.Quiet s.zeroAll := by
  refine ⟨fun r => ?_, rfl, rfl, rfl, rfl, rfl⟩
  have : s.zeroAll.rgt.entries[r] = s.rgt.entries[r].zeroCounters := by simp [State.zeroAll]
  rw [this]
  exact .of_same ⟨s.rgt.entries[r].fields.mode, rfl⟩ rfl

theorem State.linkEnable_quiet (s : State) : s.linkEnable.Leads s.Quiet := by
  unfold State.linkEnable
  split
  · exact .of_rgt (by simp)
  · trivial

theorem State.goDisabled_quiet (s : State) : s.Quiet s.goDisabled := .of_rgt (by simp)

theorem State.linkRenew_quiet (s : State) : s.Quiet s.linkRenew :=
  .trans (t := { s with lnc := { s.lnc with fresh := true } }) (.of_rgt (by simp)) (State.goDown_quiet _ _)

/-! ### The five commands that load or enable -/

/-- Whether a command may load a setting, load or enable a region, or reset the part. -/
def Instr.loads : Instr → Bool
  | .regionSet _ => true
  | .regionEnable _ => true
  | .linkSet _ => true
  | .journalSet _ => true
  | .reset => true
  | _ => false

/-- Every other command keeps what the rules keep. -/
theorem exec_keeps (c : Instr) (s t : State) (hc : Instr.loads c = false) (h : exec c s = .next t) : s.Keeps t := by
  have hnext : ∀ {u : State}, (Host.Outcome.next u : Host.Outcome State Fault Refusal) = .next t → s.Keeps u →
      s.Keeps t := by
    intro u hu hk
    cases hu
    exact hk
  cases c with
  | upstreamRequest r =>
    refine hnext h (State.event_keeps (.quiet (.refl s) (.of_rgt (by simp))) fun t ht => ?_)
    cases ht
    exact State.Quiet.keeps (.of_rgt (by simp))
  | malformedHead => exact hnext h (State.event_quiet s.answerMalformed_quiet)
  | upGrant itag => exact hnext h (State.event_quiet (s.grantUp_quiet itag))
  | aplGrant itag => exact hnext h (State.event_keeps (.refl s) (s.grantApl_keeps itag))
  | swpGrant itag => exact hnext h (State.event_quiet (s.grantSwp_quiet itag))
  | downstreamResponse itag st data =>
    exact hnext h (State.event_keeps (.refl s) (s.takeDownstream_keeps itag st data.toList))
  | upstreamResponse tag => exact hnext h (State.event_quiet (s.sendResponse_quiet tag))
  | stallTimerExpiry => exact hnext h (State.event_quiet s.expireStall_quiet)
  | hostBusReset =>
    change execHostBusReset s = _ at h
    unfold execHostBusReset at h
    split at h
    · exact hnext h (State.Quiet.keeps (.of_rgt (by simp)))
    · refine hnext h (State.event_quiet fun t ht => ?_)
      split at ht <;> cases ht
      exact s.hostBusClear_quiet
  | hostBusResetRelease =>
    refine hnext h (State.event_keeps (.quiet (.refl s) (.of_rgt (by simp))) fun t ht => ?_)
    cases ht
    exact State.Quiet.keeps (.of_rgt (by simp))
  | reset => cases hc
  | holdDeadlineExpiry tag => exact hnext h (State.event_quiet (s.deadlineExpires_quiet tag))
  | frameOpportunity =>
    refine hnext h (State.event_quiet fun t ht => ?_)
    split at ht
    · cases ht
    · split at ht <;> cases ht
      exact s.answerOpportunity_quiet _
  | frameCompleted => exact hnext h (State.event_quiet s.completeFrame_quiet)
  | collision => exact hnext h (State.event_quiet s.collide_quiet)
  | guardTimerExpiry => exact hnext h (State.event_quiet s.expireGuard_quiet)
  | dwellTimerExpiry => exact hnext h (State.event_quiet s.expireDwell_quiet)
  | silenceTimerExpiry => exact hnext h (State.event_quiet s.expireSilence_quiet)
  | frameMarkDetected =>
    change execFrameMarkDetected s = _ at h
    unfold execFrameMarkDetected at h
    split at h
    · exact hnext h (State.Quiet.keeps (.of_rgt (by simp)))
    · exact hnext h (State.event_quiet s.detectMark_quiet)
  | headerReceived bytes => exact hnext h (State.event_quiet (s.receiveHeader_quiet bytes))
  | frameEnd rest =>
    change execFrameEnd rest s = _ at h
    unfold execFrameEnd at h
    split at h
    · exact hnext h (State.Quiet.keeps (.of_rgt (by simp)))
    · exact hnext h (State.event_keeps (.refl s) (s.receiveEnd_keeps rest))
  | retrainTimerExpiry => exact hnext h (State.event_quiet s.expireRetrain_quiet)
  | helloTimerExpiry => exact hnext h (State.event_quiet s.expireHello_quiet)
  | replyGuardExpiry => exact hnext h (State.event_quiet (s.expireTrainingGuard_quiet _ _))
  | startGuardExpiry => exact hnext h (State.event_quiet (s.expireTrainingGuard_quiet _ _))
  | trainingTimerExpiry => exact hnext h (State.event_quiet s.expireTraining_quiet)
  | nop t => exact hnext h (State.transaction_keeps _ _ _ _ fun _ u => .refl u)
  | portIdent t => exact hnext h (State.transaction_keeps _ _ _ _ fun _ u => .refl u)
  | regionSet t => cases hc
  | regionEnable t => cases hc
  | regionDisable t => exact hnext h (State.transaction_keeps _ _ _ _ fun p u => u.regionDisable_quiet p)
  | regionResync t => exact hnext h (State.transaction_keeps _ _ _ _ fun p u => u.regionResync_quiet p)
  | regionMode t => exact hnext h (State.transaction_keeps _ _ _ _ fun p u => u.regionMode_quiet p)
  | regionQuery t =>
    exact hnext h (State.transaction_keeps _ _ _ _ fun p u => withRegion_leads p fun _ => .refl u)
  | linkSet t => cases hc
  | linkEnable t => exact hnext h (State.transaction_keeps _ _ _ _ fun _ u => u.linkEnable_quiet)
  | linkDisable t => exact hnext h (State.transaction_keeps _ _ _ _ fun _ u => u.goDisabled_quiet)
  | linkRenew t => exact hnext h (State.transaction_keeps _ _ _ _ fun _ u => u.linkRenew_quiet)
  | linkQuery t => exact hnext h (State.transaction_keeps _ _ _ _ fun _ u => .refl u)
  | journalSet t => cases hc
  | journalQuery t => exact hnext h (State.transaction_keeps _ _ _ _ fun _ u => .refl u)
  | eventQuery t => exact hnext h (State.transaction_keeps _ _ _ _ fun _ u => .refl u)
  | eventAck t =>
    exact hnext h (State.transaction_keeps _ _ _ _ fun _ u => State.Quiet.of_rgt (by simp))
  | eventEnable t =>
    exact hnext h (State.transaction_keeps _ _ _ _ fun _ u => State.Quiet.of_rgt (by simp))
  | counterQuery t =>
    refine hnext h (State.transaction_keeps _ _ _ _ fun p u => ?_)
    split
    · trivial
    · exact .refl u
  | counterZero t =>
    refine hnext h (State.transaction_keeps _ _ _ _ fun p u => ?_)
    split
    · exact u.zeroAll_quiet
    · split
      · trivial
      · exact u.zeroCounter_quiet _
  | undefinedRequest t =>
    change execUndefinedRequest t s = _ at h
    unfold execUndefinedRequest at h
    split at h
    · exact hnext h (.refl s)
    · split at h
      · exact hnext h (s.shiftOut_quiet _ _).keeps
      · split at h
        · exact hnext h (.refl s)
        · exact hnext h ((s.shiftOut_quiet _ _).trans (State.answer_quiet _ _ _)).keeps
  | resetRelease =>
    change execResetRelease s = _ at h
    unfold execResetRelease at h
    split at h
    · exact hnext h (State.Keeps.settle (State.Quiet.keeps (.of_rgt (by simp))))
    · exact hnext h (.refl s)

/-! ### What the five commands keep -/

/-- An entry put in a table with the others as they are keeps it sound if it is in range, has a TARGET's state, and
overlaps no other live entry when it is live itself. -/
theorem State.setRegion_sound (s : State) (r : RegionIx) (e : Region) (hs : s.rgt.sound = true)
    (hrange : e.fields.inRange = true)
    (hstate : e.fields.direction = .source ∨ e.state = .disabled ∨ e.state = .active)
    (hpages : e.state = .disabled ∨ ∀ q, q ≠ r → (s.region q).state ≠ .disabled →
      e.fields.sharesPage (s.region q).fields = false) : (s.setRegion r e).rgt.sound = true := by
  have hentry : ∀ q : RegionIx, (s.setRegion r e).rgt.entries[q] = if q = r then e else s.rgt.entries[q] :=
    fun q => s.region_setRegion r q e
  have hcomm : ∀ f g : RegionFields, f.sharesPage g = g.sharesPage f := by
    intro f g
    unfold RegionFields.sharesPage
    rw [decide_eq_decide]
    exact and_comm
  simp only [Rgt.sound, Bool.and_eq_true, Rgt.inRange, Rgt.targetStates, Rgt.disjoint, List.all_eq_true,
    List.mem_finRange, forall_const, Bool.or_eq_true, decide_eq_true_eq, Bool.not_eq_true'] at hs ⊢
  obtain ⟨⟨hr, ht⟩, hd⟩ := hs
  have hlive : ∀ q : RegionIx, q ≠ r → e.state = .disabled ∨ s.rgt.entries[q].state = .disabled ∨
      e.fields.sharesPage s.rgt.entries[q].fields = false := by
    intro q hq
    by_cases hdq : s.rgt.entries[q].state = .disabled
    · exact .inr (.inl hdq)
    · exact hpages.imp_right fun hp => .inr (hp q hq hdq)
  refine ⟨⟨fun q => ?_, fun q => ?_⟩, fun q p => ?_⟩
  · rw [hentry]; split
    · exact hrange
    · exact hr q
  · rw [hentry]; split
    · exact or_assoc.2 hstate
    · exact ht q
  · rw [hentry, hentry]
    by_cases hq : q = r <;> by_cases hp : p = r
    · exact .inl (.inl (.inl (hq.trans hp.symm)))
    · rw [if_pos hq, if_neg hp]
      rcases hlive p hp with h | h | h
      · exact .inl (.inl (.inr h))
      · exact .inl (.inr h)
      · exact .inr h
    · rw [if_neg hq, if_pos hp, hcomm]
      rcases hlive q hq with h | h | h
      · exact .inl (.inr h)
      · exact .inl (.inl (.inr h))
      · exact .inr h
    · rw [if_neg hq, if_neg hp]
      exact hd q p

end Sys2Proof.Machine

namespace Sys2Proof.Machine

/-- A state as sound as another, whatever led from the one to the other. -/
structure State.AsSound (s t : State) : Prop where
  table : s.rgt.sound = true → t.rgt.sound = true
  settings : s.settingsInRange = true → t.settingsInRange = true
  apply : s.dnp.outstandingLaw = true → s.applyLaw = true → t.applyLaw = true

theorem State.Keeps.asSound {s t : State} (h : s.Keeps t) : s.AsSound t :=
  ⟨h.table.sound, fun hs => by rw [State.settingsInRange_congr h.params h.settings]; exact hs, h.apply⟩

theorem State.Quiet.applyLaw {s t : State} (h : s.Quiet t) (hs : s.applyLaw = true) : t.applyLaw = true := by
  rw [State.applyLaw_congr h.apl h.expected h.parts]
  exact hs

theorem State.AsSound.quiet {s t u : State} (h : s.AsSound t) (k : t.Quiet u) : s.AsSound u :=
  ⟨fun hs => k.table.sound (h.table hs), fun hs => k.keeps.asSound.settings (h.settings hs),
    fun hd hs => k.applyLaw (h.apply hd hs)⟩

theorem State.settle_applyLaw (s : State) (hs : s.applyLaw = true) : s.settle.applyLaw = true := by
  have hstalled := (s.acceptPresented_quiet.trans (State.stallCheck_quiet _)).applyLaw hs
  have hrun := State.applyRun_applyLaw _ hstalled
  exact (((State.sweepTake_quiet _).trans (State.dwellCheck_quiet _)).trans (State.sendWanted_quiet _)).applyLaw hrun

theorem State.AsSound.settle {s t : State} (h : s.AsSound t) : s.AsSound t.settle := by
  have hsettle := (State.Keeps.refl t).settle.asSound
  exact ⟨fun hs => hsettle.table (h.table hs), fun hs => hsettle.settings (h.settings hs),
    fun hd hs => t.settle_applyLaw (h.apply hd hs)⟩

/-- A transaction stays sound when its request does. -/
theorem State.transaction_asSound (t : Transaction) (len : Nat) (run : List Byte → State → Verdict) (s : State)
    (hrun : ∀ p u, s.AsSound u → (run p u).Leads s.AsSound) : s.AsSound (s.transaction t len run) :=
  State.transaction_leads s.AsSound (fun n m u h => h.quiet (u.shiftOut_quiet n m))
    (fun st p u h => h.quiet (u.answer_quiet st p)) (fun _ h => h.settle) t len run hrun s
    (State.Keeps.refl s).asSound

/-- A replaced entry of the table touches neither settings nor apply engine. -/
theorem State.AsSound.setRegion {s t : State} (h : s.AsSound t) (r : RegionIx) (e : Region)
    (he : t.rgt.sound = true → (t.setRegion r e).rgt.sound = true) : s.AsSound (t.setRegion r e) :=
  ⟨fun hs => he (h.table hs), h.settings, h.apply⟩

theorem Rgt.inRange_of_sound {g : Rgt} (h : g.sound = true) (r : RegionIx) : g.entries[r].fields.inRange = true := by
  simp only [Rgt.sound, Bool.and_eq_true, Rgt.inRange, List.all_eq_true, List.mem_finRange, forall_const] at h
  exact h.1.1 r

/-- Fields in range loaded into a DISABLED entry (R2). -/
theorem State.regionSet_asSound (p : List Byte) {s u : State} (h : s.AsSound u) :
    (u.regionSet p).Leads s.AsSound := by
  refine withRegion_leads p fun r => ?_
  split
  · trivial
  · next hdisabled =>
    rw [ne_eq, not_not] at hdisabled
    split
    · trivial
    · split
      · next f hrange =>
        exact h.setRegion r _ fun hs =>
          u.setRegion_sound r _ hs hrange (.inr (.inl hdisabled)) (.inl hdisabled)
      · trivial

/-- No other live entry shares a page with an entry that overlaps none (R5). -/
theorem State.overlaps_false {s : State} {r : RegionIx} (h : s.overlaps r = false) (q : RegionIx) (hq : q ≠ r)
    (hlive : (s.region q).state ≠ .disabled) : (s.region r).fields.sharesPage (s.region q).fields = false := by
  have := List.any_eq_false.1 h q (List.mem_finRange q)
  simpa [hq, hlive] using this

/-- An entry without overlap comes to life, a TARGET in ACTIVE (R5 to R7). -/
theorem State.regionEnable_asSound (p : List Byte) {s u : State} (h : s.AsSound u) :
    (u.regionEnable p).Leads s.AsSound := by
  refine withRegion_leads p fun r => ?_
  split
  · trivial
  · split
    · trivial
    · next hoverlap =>
      have hoverlap : u.overlaps r = false := by simpa using hoverlap
      have hstate : ∀ st, (u.region r).fields.direction = .source ∨ st = .active →
          s.AsSound (u.setRegionState r st) := fun st hst =>
        h.setRegion r _ fun hs => u.setRegion_sound r _ hs (Rgt.inRange_of_sound hs r)
          (hst.imp_right .inr) (.inr (State.overlaps_false hoverlap))
      show s.AsSound (u.enableRegion r)
      unfold State.enableRegion
      split
      · exact hstate .active (.inr rfl)
      · next hsource =>
        have hdiverged := hstate .diverged (.inl hsource)
        dsimp only
        split
        · refine hdiverged.quiet (State.toResyncing_quiet r _ ?_ ?_)
          · simpa [State.setRegionState, State.region_setRegion] using hsource
          · simp [State.setRegionState, State.region_setRegion]
        · exact hdiverged

/-- Parameters in range loaded while the link is DISABLED (R153). -/
theorem State.linkSet_asSound (p : List Byte) {s u : State} (h : s.AsSound u) :
    (u.linkSet p).Leads s.AsSound := by
  unfold State.linkSet
  split
  · split
    · trivial
    · split
      · next q hrange =>
        refine ⟨h.table, fun hs => ?_, h.apply⟩
        have := h.settings hs
        simp only [State.settingsInRange, Bool.and_eq_true] at this ⊢
        exact ⟨hrange, this.2⟩
      · trivial
  · trivial

/-- Marks and reserve in range loaded into JNL (R37, R175). -/
theorem State.journalSet_asSound (p : List Byte) {s u : State} (h : s.AsSound u) :
    (u.journalSet p).Leads s.AsSound := by
  unfold State.journalSet
  dsimp only
  split
  · next hrange =>
    obtain ⟨hhigh, hhigh', -, hdesc, hbytes, hlow⟩ := hrange
    have hloaded : s.AsSound { u with jnl := { u.jnl with
        highMark := field p 0 1, lowMark := field p 1 1
        reserveDesc := field p 2 2, reserveBytes := field p 4 4 } } := by
      refine ⟨h.table, fun hs => ?_, h.apply⟩
      have := h.settings hs
      simp only [State.settingsInRange, Bool.and_eq_true] at this ⊢
      exact ⟨this.1, by simp [Jnl.settingsInRange, hhigh, hhigh', hdesc, hbytes, hlow]⟩
    exact hloaded.quiet (.of_rgt (by simp))
  · trivial

/-- After RESET everything is sound (R35). -/
theorem State.resetAsserted_asSound (s : State) : s.AsSound s.resetAsserted := by
  have hreset : State.reset.rgt.sound = true ∧ State.reset.settingsInRange = true ∧ State.reset.applyLaw = true := by
    decide +kernel
  exact ⟨fun _ => hreset.1, fun _ => hreset.2.1, fun _ _ => hreset.2.2⟩

/-- Every command keeps table, settings and apply engine sound. -/
theorem exec_asSound (c : Instr) (s t : State) (h : exec c s = .next t) : s.AsSound t := by
  cases hc : Instr.loads c with
  | false => exact (exec_keeps c s t hc h).asSound
  | true =>
    cases c with
    | regionSet _ => cases h; exact State.transaction_asSound _ _ _ s fun p u hu => State.regionSet_asSound p hu
    | regionEnable _ =>
      cases h; exact State.transaction_asSound _ _ _ s fun p u hu => State.regionEnable_asSound p hu
    | linkSet _ => cases h; exact State.transaction_asSound _ _ _ s fun p u hu => State.linkSet_asSound p hu
    | journalSet _ => cases h; exact State.transaction_asSound _ _ _ s fun p u hu => State.journalSet_asSound p hu
    | reset => cases h; exact s.resetAsserted_asSound
    | _ => cases hc

theorem step_asSound (s t : State) (h : step s = .next t) : s.AsSound t := by
  unfold step at h
  split at h
  · cases h
    unfold State.tick
    split
    · exact (State.Keeps.refl s).asSound
    · exact ⟨id, id, fun _ => id⟩
  · next c rest _ =>
    have := exec_asSound c _ t h
    exact ⟨this.table, this.settings, this.apply⟩

/-- Settles O57: every step is either a tick, one of the five commands that load, enable or reset, or a command after
which the table follows, the settings stay and the apply engine's law is kept. -/
theorem everyStepKeepsTheTableSettingsAndApplyQueue :
    Obligations.EveryStepKeepsTheTableSettingsAndApplyQueue := by
  intro s t h
  obtain ⟨htable, hsettings, happly⟩ := step_asSound s t h
  exact ⟨htable, hsettings, happly⟩

end Sys2Proof.Machine

namespace Sys2Proof.Machine

/-! ### The lookups of the table (R5, R14, R143) -/

theorem RegionFields.covers_iff (f : RegionFields) (p : Nat) :
    f.covers p = true ↔ f.basePage ≤ p ∧ p < f.basePage + f.size := by
  simp [RegionFields.covers]

/-- Of two live entries of a table without overlap, one at most covers a page (R5). -/
theorem Rgt.disjoint_unique {s : State} (h : s.rgt.disjoint = true) {x y : RegionIx} {p : Nat}
    (hx : (s.region x).state ≠ .disabled) (hy : (s.region y).state ≠ .disabled)
    (hxp : (s.region x).fields.covers p = true) (hyp : (s.region y).fields.covers p = true) : x = y := by
  simp only [Rgt.disjoint, List.all_eq_true, List.mem_finRange, forall_const, Bool.or_eq_true,
    decide_eq_true_eq, Bool.not_eq_true'] at h
  rw [RegionFields.covers_iff] at hxp hyp
  rcases h x y with ((hxy | hd) | hd) | hs
  · exact hxy
  · exact absurd hd hx
  · exact absurd hd hy
  · simp only [RegionFields.sharesPage, decide_eq_false_iff_not] at hs
    simp only [State.region] at hxp hyp
    omega

/-- The lookup finds the one live entry that covers the page (R14). -/
theorem State.lookup_iff {s : State} (h : s.rgt.disjoint = true) (p : Nat) (x : RegionIx) :
    s.lookup p = some x ↔ (s.region x).state ≠ .disabled ∧ (s.region x).fields.covers p = true := by
  refine ⟨s.lookup_some p x, fun ⟨hlive, hcov⟩ => ?_⟩
  cases hl : s.lookup p with
  | none =>
    rcases (s.lookup_none p).1 hl x with hd | hc
    · exact absurd hd hlive
    · rw [hcov] at hc; cases hc
  | some y =>
    obtain ⟨hy, hyc⟩ := s.lookup_some p y hl
    rw [Rgt.disjoint_unique h hlive hy hcov hyc]

/-- APL's lookup finds the one live TARGET entry that covers the page (R143). -/
theorem State.lookupTarget_iff {s : State} (h : s.rgt.disjoint = true) (a : Addr) (x : RegionIx) :
    s.lookupTarget a = some x ↔ (s.region x).state ≠ .disabled ∧ (s.region x).fields.direction = .target ∧
      (s.region x).fields.covers (pageOf a) = true := by
  have hfound : ∀ y, s.lookupTarget a = some y → (s.region y).state ≠ .disabled ∧
      (s.region y).fields.direction = .target ∧ (s.region y).fields.covers (pageOf a) = true := by
    intro y hy
    simpa [and_assoc] using List.find?_some hy
  refine ⟨hfound x, fun ⟨hlive, hdir, hcov⟩ => ?_⟩
  cases hl : s.lookupTarget a with
  | none =>
    have := List.find?_eq_none.1 hl x (List.mem_finRange x)
    simp [hlive, hdir, hcov] at this
  | some y =>
    obtain ⟨hy, -, hyc⟩ := hfound y hl
    rw [Rgt.disjoint_unique h hlive hy hcov hyc]

/-- A live TARGET entry is ACTIVE (R6). -/
theorem State.target_live_iff {s : State} (h : s.rgt.targetStates = true) {x : RegionIx}
    (hdir : (s.region x).fields.direction = .target) :
    (s.region x).state ≠ .disabled ↔ (s.region x).state = .active := by
  simp only [Rgt.targetStates, List.all_eq_true, List.mem_finRange, forall_const, Bool.or_eq_true,
    decide_eq_true_eq] at h
  rcases h x with (hx | hx) | hx
  · exact absurd (hdir.symm.trans hx) (by decide)
  · have : (s.region x).state = .disabled := hx
    simp [this]
  · have : (s.region x).state = .active := hx
    simp [this]

/-- The remote address, where it lies in the address space (R4). -/
theorem remoteOf_toNat (a : Addr) (d : Int) (h0 : 0 ≤ (a.toNat : Int) + d * 4096)
    (h1 : (a.toNat : Int) + d * 4096 < 2 ^ 40) : ((remoteOf a d).toNat : Int) = a.toNat + d * 4096 := by
  rw [remoteOf, BitVec.toNat_ofInt, Int.toNat_of_nonneg (Int.emod_nonneg _ (by norm_num))]
  exact Int.emod_eq_of_lt h0 (by exact_mod_cast h1)

/-! ### The record at the issue point (R143) -/

/-- The record at the issue point is the one as many places after A as the issue point is. -/
theorem State.atIssue_eq {s : State} (h : s.applyLaw = true) :
    s.apl.atIssue = s.apl.queue[(s.apl.issue - s.apl.applied).toNat]? := by
  rw [State.applyLaw_iff] at h
  exact h.queue.atIssue h.issue.issued

/-- Nothing stands at the issue point when it has come to E. -/
theorem State.issue_at_end {s : State} (h : s.applyLaw = true) :
    s.apl.queue[(s.apl.issue - s.apl.applied).toNat]? = none ↔ s.apl.issue = s.frx.expected := by
  rw [State.applyLaw_iff] at h
  have hle := h.issue.issued
  have hlen : s.apl.queue.length ≤ 512 := h.queue.records
  have hissue := s.apl.issue_eq
  rw [List.getElem?_eq_none_iff, h.queue.expected]
  change s.apl.queue.length ≤ s.apl.issued ↔ _
  rw [hissue, BitVec.add_right_inj]
  constructor
  · intro hge
    rw [Nat.le_antisymm hle hge]
  · intro heq
    have := congrArg BitVec.toNat heq
    simp only [BitVec.toNat_ofNat] at this
    omega

/-! ### The tests of a write (R18, R21, R42, R47) -/

theorem anyEnabled_iff (bytes : List (Byte × Bool)) : anyEnabled bytes = true ↔ ∃ b ∈ bytes, b.2 = true := by
  simp [anyEnabled]

theorem allEnabled_iff (bytes : List (Byte × Bool)) : allEnabled bytes = true ↔ ∀ b ∈ bytes, b.2 = true := by
  simp [allEnabled]

/-- A head is in STALL in a region when R21's conditions hold. -/
theorem State.stallOf_iff (s : State) (r : UpRequest) (x : RegionIx) :
    s.stallOf r = some x ↔ ∃ bytes : List (Byte × Bool),
      malformed r = false ∧ r.body = .write bytes ∧ anyEnabled bytes = true ∧
      s.lookup (pageOf r.address) = some x ∧ (s.region x).capturing = true ∧
      (s.region x).fields.fullPolicy = .stall ∧
      s.jnl.captureFits x r.address (remoteOf r.address (s.region x).fields.displacement) bytes = false := by
  unfold State.stallOf
  cases r.body with
  | read n => simp
  | write bytes =>
    by_cases hm : malformed r = true
    · simp [hm]
    · by_cases ha : anyEnabled bytes = true
      · simp [hm, ha, Option.filter_eq_some_iff, and_assoc]
      · simp [hm, ha]

/-- A write is coalesced into the newest record when R47's seven conditions hold. -/
theorem Jnl.coalesceInto_iff (j : Jnl) (x : RegionIx) (a remote : Addr) (bytes : List (Byte × Bool)) (rec : Record) :
    j.coalesceInto x a remote bytes = some rec ↔
      j.records.getLast? = some rec ∧ rec.isOpen = true ∧ rec.region = x ∧
        (rec.mask = none ∧ ∀ b ∈ bytes, b.2 = true) ∧
        a.toNat = rec.localAddr.toNat + rec.length ∧ remote.toNat = rec.remoteAddr.toNat + rec.length ∧
        rec.length + bytes.length ≤ 256 ∧ rec.localAddr.toNat % 4096 + (rec.length + bytes.length) ≤ 4096 := by
  simp only [Jnl.coalesceInto, Option.filter_eq_some_iff, coalesces, Bool.and_eq_true, decide_eq_true_eq,
    Option.isNone_iff_eq_none, allEnabled_iff, and_assoc]
  rfl

/-- Settles O10: each test is a check on the table, the queue or the newest record, and the lookups find one entry
at most because no two live entries share a page. -/
theorem lookupsAndCaptureTests : Obligations.LookupsAndCaptureTests := by
  refine ⟨fun a d => ⟨rfl, remoteOf_toNat a d⟩, fun s x hdisj => ⟨fun page => ?_, fun htgt a => ?_⟩,
    Region.capturing_iff, fun s happly => ?_, fun bytes => ⟨anyEnabled_iff bytes, allEnabled_iff bytes⟩,
    fun n bytes => ⟨rfl, rfl⟩, fun r => ?_, fun s r x => ?_, fun j x a remote bytes => ⟨fun rec hrec => ?_,
    fun hnone => ?_, j.coalesceInto_iff x a remote bytes⟩⟩
  · rw [State.lookup_iff hdisj, RegionFields.covers_iff]
  · rw [State.lookupTarget_iff hdisj, RegionFields.covers_iff]
    constructor
    · rintro ⟨hlive, hdir, hcov⟩
      exact ⟨(State.target_live_iff htgt hdir).1 hlive, hdir, hcov⟩
    · rintro ⟨hactive, hdir, hcov⟩
      exact ⟨(State.target_live_iff htgt hdir).2 hactive, hdir, hcov⟩
  · dsimp only
    rw [← State.issue_at_end happly, ← State.atIssue_eq happly]
    unfold State.classifyIssue
    cases s.apl.atIssue with
    | none => simp
    | some rec =>
      dsimp only
      by_cases hv : rec.kind = .void
      · rw [if_pos hv]
        grind
      · rw [if_neg hv]
        cases hl : s.lookupTarget rec.remoteAddr with
        | none => grind
        | some y => grind
  · exact decide_eq_true_iff
  · simp only [State.stallOf_iff, Region.capturing_iff, anyEnabled_iff, and_assoc]
    rfl
  · simp only [Jnl.captureFits, hrec]
    exact decide_eq_true_iff
  · simp only [Jnl.captureFits, hnone]
    exact decide_eq_true_iff

end Sys2Proof.Machine

namespace Sys2Proof.Machine

/-! ### The grant to UP (R26) -/

/-- A grant to UP that can happen. -/
theorem exec_upGrant {itag : ITag} {s t : State} (hr : s.inReset = false) (h : s.grantUp itag = some t) :
    exec (.upGrant itag) s = .next t.settle :=
  congrArg Host.Outcome.next (State.event_some _ s t hr h)

/-- A grant to UP that issues the head: its class acts first, then the transaction takes an entry (R26). -/
theorem State.grantUp_issues {s t : State} {itag : ITag} {r : UpRequest} {rest : List UpRequest} {path : UpPath}
    (harb : s.arbiter = some .up) (hin : s.upi.intake = r :: rest) (hfree : s.dnp.tagFree itag = true)
    (hclass : s.popHead.applyClass (s.classify r) r = (t, some path)) :
    s.grantUp itag = some (t.issue .up itag (.up r.tag path) r.address r.body) := by
  simp [State.grantUp, harb, hin, hclass, hfree]

/-- A grant to UP that rejects the head: it is answered FAULT with no transaction (R16). -/
theorem State.grantUp_rejects {s t : State} {itag : ITag} {r : UpRequest} {rest : List UpRequest}
    (harb : s.arbiter = some .up) (hin : s.upi.intake = r :: rest)
    (hclass : s.popHead.applyClass (s.classify r) r = (t, none)) :
    s.grantUp itag = some (State.respond r.tag .fault [] { t with dnp := { t.dnp with rotation := .up } }) := by
  simp [State.grantUp, harb, hin, hclass]

/-- The head leaves the intake queue. -/
theorem State.popHead_eq {s : State} {r : UpRequest} {rest : List UpRequest} (hin : s.upi.intake = r :: rest) :
    s.popHead = { s with upi := { s.upi with intake := rest, stall := none } } := by
  simp [State.popHead, hin]

@[simp] theorem State.popHead_region (s : State) (x : RegionIx) : s.popHead.region x = s.region x := rfl

/-! ### The class of a granted transaction (R14 to R16) -/

theorem State.classify_read (s : State) {r : UpRequest} {n : Nat} (hb : r.body = .read n) :
    s.classify r = .forward (.read n) := by
  simp [State.classify, hb]

theorem State.classify_outside (s : State) {r : UpRequest} {bytes : List (Byte × Bool)} (hb : r.body = .write bytes)
    (hl : s.lookup (pageOf r.address) = none) : s.classify r = .forward .plain := by
  simp [State.classify, hb, hl]

theorem State.classify_stray (s : State) {r : UpRequest} {bytes : List (Byte × Bool)} {x : RegionIx}
    (hb : r.body = .write bytes) (hl : s.lookup (pageOf r.address) = some x)
    (hd : (s.region x).fields.direction = .target) :
    ((s.region x).fields.stray = .pass → s.classify r = .strayPass x) ∧
      ((s.region x).fields.stray = .reject → s.classify r = .strayReject x) := by
  constructor <;> intro hs <;> simp only [State.classify, hb, hl, hd, hs]

theorem State.classify_unenabled (s : State) {r : UpRequest} {bytes : List (Byte × Bool)} {x : RegionIx}
    (hb : r.body = .write bytes) (hl : s.lookup (pageOf r.address) = some x)
    (hd : (s.region x).fields.direction = .source) (ha : anyEnabled bytes = false) :
    s.classify r = .forward .plain := by
  simp [State.classify, hb, hl, hd, ha]

theorem State.classify_diverged (s : State) {r : UpRequest} {bytes : List (Byte × Bool)} {x : RegionIx}
    (hb : r.body = .write bytes) (hl : s.lookup (pageOf r.address) = some x)
    (hd : (s.region x).fields.direction = .source) (ha : anyEnabled bytes = true)
    (hc : (s.region x).capturing = false) : s.classify r = .forward (s.region x).fields.uncaptured := by
  simp [State.classify, hb, hl, hd, ha, hc]

theorem State.classify_capturing (s : State) {r : UpRequest} {bytes : List (Byte × Bool)} {x : RegionIx}
    (hb : r.body = .write bytes) (hl : s.lookup (pageOf r.address) = some x) (ha : anyEnabled bytes = true)
    (hc : (s.region x).capturing = true) :
    s.classify r =
      if s.jnl.captureFits x r.address (remoteOf r.address (s.region x).fields.displacement) bytes then .capture x
      else .noSpace x (s.region x).fields.uncaptured := by
  simp [State.classify, hb, hl, ((s.region x).capturing_iff.1 hc).1, ha, hc]

/-! ### The four grants to UP -/

/-- Settles O12: each of the four cases is classed as forwarded, and a forwarded head is issued as it is. -/
theorem upGrantForwards : Obligations.UpGrantForwards := by
  intro s itag r rest path hr harb hin hfree hcase
  have hclass : s.classify r = .forward path := by
    rcases hcase with ⟨n, hb, rfl⟩ | ⟨bytes, hb, rfl, hl | ⟨x, hl, hd, ha⟩⟩ | ⟨bytes, x, hb, ha, hl, hd, hst, rfl⟩
    · exact s.classify_read hb
    · exact s.classify_outside hb hl
    · exact s.classify_unenabled hb hl hd ha
    · exact s.classify_diverged hb hl hd ha (by simp [Region.capturing, hst])
  have hgrant := State.grantUp_issues (t := s.popHead) harb hin hfree (by rw [hclass]; rfl)
  rw [exec_upGrant hr hgrant, State.popHead_eq hin]
  rfl

/-- Settles O14: the class is a capture without space, which diverges the region before the head is issued. -/
theorem upGrantWithoutSpaceDiverges : Obligations.UpGrantWithoutSpaceDiverges := by
  intro s itag r rest bytes x hr harb hin hfree hb ha hl hc hfits
  have hclass : s.classify r = .noSpace x (s.region x).fields.uncaptured := by
    rw [s.classify_capturing hb hl ha hc, if_neg (by simp [hfits])]
  have hgrant := State.grantUp_issues harb hin hfree (by rw [hclass]; rfl)
  rw [exec_upGrant hr hgrant, State.diverge_live x s.popHead hc, State.popHead_eq hin]
  rfl

/-- Settles O15: the class is a stray write, issued under PASS and answered under REJECT. -/
theorem upGrantOfAStrayWrite : Obligations.UpGrantOfAStrayWrite := by
  intro s itag r rest bytes x hr harb hin hb hl hd
  obtain ⟨hpassed, hrejected⟩ := s.classify_stray hb hl hd
  refine ⟨fun hpass hfree => ?_, fun hreject => ?_⟩
  · have hgrant := State.grantUp_issues harb hin hfree (by rw [hpassed hpass]; rfl)
    rw [exec_upGrant hr hgrant, State.popHead_eq hin]
    rfl
  · have hgrant := State.grantUp_rejects (itag := itag) harb hin (by rw [hrejected hreject]; rfl)
    rw [exec_upGrant hr hgrant, State.popHead_eq hin]
    rfl

/-! ### A captured write (R44, R47, R63) -/

/-- The records after a captured write: the newest grown, or a new one behind the others, which it closes. -/
def Jnl.capturedRecords (j : Jnl) (x : RegionIx) (a remote : Addr) (bytes : List (Byte × Bool)) : List Record :=
  match j.coalesceInto x a remote bytes with
  | some rec => j.records.dropLast ++ [rec.grow bytes]
  | none => j.records.map Record.close ++ [newRecord j.nextSeq x a remote bytes]

/-- JNL after a captured write: the records with the latch of the water marks, and next seq past a new record. -/
def State.capturedJnl (s : State) (x : RegionIx) (a remote : Addr) (bytes : List (Byte × Bool)) : Jnl :=
  { (s.setRecords (s.jnl.capturedRecords x a remote bytes)).jnl with
    nextSeq := if (s.jnl.coalesceInto x a remote bytes).isSome then s.jnl.nextSeq else s.jnl.nextSeq + 1 }

/-- A capture changes the journal and the events of the water marks, and reads nothing else. -/
theorem State.capture_eq (x : RegionIx) (a remote : Addr) (bytes : List (Byte × Bool)) (s t : State)
    (hj : t.jnl = s.jnl) (hm : t.mgp = s.mgp) : t.capture x a remote bytes = { t with
      jnl := s.capturedJnl x a remote bytes
      mgp := (s.setRecords (s.jnl.capturedRecords x a remote bytes)).mgp } := by
  unfold State.capture State.capturedJnl Jnl.capturedRecords
  rw [hj]
  cases s.jnl.coalesceInto x a remote bytes with
  | some rec =>
    dsimp only
    rw [State.setRecords_frame _ s t hj hm]
    congr 1
    rw [(s.setRecords_keeps _).1]
    rfl
  | none =>
    dsimp only
    rw [State.appendRecord, hj, State.setRecords_frame _ s t hj hm]
    rfl

/-- A captured write counts CAPTURED, and in SYNC mode makes a hold with the seq of its record (R17, R63). -/
theorem State.captureWrite_eq (x : RegionIx) (r : UpRequest) (bytes : List (Byte × Bool)) (s t : State)
    (hj : t.jnl = s.jnl) (hm : t.mgp = s.mgp) (hr : t.rgt = s.rgt) (hh : t.hld = s.hld) (hn : t.now = s.now) :
    let f := (s.region x).fields
    let remote := remoteOf r.address f.displacement
    t.captureWrite x r bytes = { t with
      jnl := s.capturedJnl x r.address remote bytes
      mgp := (s.setRecords (s.jnl.capturedRecords x r.address remote bytes)).mgp
      rgt := ⟨s.rgt.entries.set x { s.region x with captured := satInc (s.region x).captured }⟩
      hld := ⟨s.hld.holds ++ if f.mode = .sync then
        [newHold r.tag x (s.jnl.captureSeq x r.address remote bytes) f s.now] else []⟩ } := by
  have hregion : t.region x = s.region x := by simp only [State.region, hr]
  unfold State.captureWrite
  dsimp only
  rw [hregion, State.capture_eq x _ _ bytes s t hj hm, hj, ← hh, ← hn]
  cases (s.region x).fields.mode with
  | async =>
    rw [if_neg (by decide), List.append_nil]
    simp only [State.countCaptured, State.setRegion, State.region, hr]
  | sync =>
    rw [if_pos rfl]
    simp only [State.addHold, State.countCaptured, State.setRegion, State.region, hr]

/-- Settles O13: the class is a capture, whose effect is `State.captureWrite_eq`. -/
theorem upGrantCaptures : Obligations.UpGrantCaptures := by
  intro s itag r rest bytes x hr harb hin hfree hb ha hl hd hst f remote into seq changed hfits
  have hc : (s.region x).capturing = true := (Region.capturing_iff _).2 ⟨hd, hst⟩
  have hclass : s.classify r = .capture x := by
    rw [s.classify_capturing hb hl ha hc, if_pos hfits]
  have hgrant := State.grantUp_issues (path := .captured (decide (f.mode = .sync))) harb hin hfree
    (by rw [hclass]; simp only [State.applyClass, hb]; rfl)
  have hchanged : s.setRecords (s.jnl.capturedRecords x r.address remote bytes) = changed := by
    simp only [changed, seq, into, Jnl.capturedRecords]
    cases s.jnl.coalesceInto x r.address remote bytes <;> rfl
  have hseq : s.jnl.captureSeq x r.address remote bytes = seq := by
    simp only [Jnl.captureSeq, seq, into]
    cases s.jnl.coalesceInto x r.address remote bytes <;> rfl
  rw [exec_upGrant hr hgrant, State.captureWrite_eq x r bytes s s.popHead rfl rfl rfl rfl rfl, State.popHead_eq hin,
    State.capturedJnl, hchanged, hseq]
  rfl

end Sys2Proof.Machine

namespace Sys2Proof.Machine

/-! ### The records of a sweep (R50, R51) -/

/-- Filling a record changes neither the number of records nor their bytes (R41). -/
theorem State.fillRecord_eq (q : Seq) (data : List Byte) (s : State) :
    s.fillRecord q data =
      { s with jnl := { s.jnl with records := updateFilling q (Record.fill data) s.jnl.records } } := by
  refine s.setRecords_same _ (by simp [updateFilling]) ?_
  unfold recordsBytes Jnl.bytes recordsBytes updateFilling
  rw [List.map_map]
  congr 1
  refine List.map_congr_left fun r _ => ?_
  dsimp only [Function.comp]
  split <;> rfl

/-- Voiding a record reads and changes the journal and the events of the water marks alone. -/
theorem State.voidRecord_frame (q : Seq) (s t : State) (hj : t.jnl = s.jnl) (hm : t.mgp = s.mgp) :
    t.voidRecord q = { t with jnl := (s.voidRecord q).jnl, mgp := (s.voidRecord q).mgp } := by
  unfold State.voidRecord
  rw [hj]
  exact State.setRecords_frame _ s t hj hm

theorem Jnl.fillingRecord_some {j : Jnl} {q : Seq} (h : ∃ r ∈ j.records, r.seq = q ∧ r.state = .filling) :
    ∃ r, j.fillingRecord q = some r := by
  obtain ⟨r, hr, hq⟩ := h
  refine Option.isSome_iff_exists.1 (List.find?_isSome.2 ⟨r, hr, ?_⟩)
  simpa using hq

theorem Jnl.fillingRecord_none {j : Jnl} {q : Seq} (h : ∀ r ∈ j.records, r.seq = q → r.state ≠ .filling) :
    j.fillingRecord q = none := by
  refine List.find?_eq_none.2 fun r hr => ?_
  simpa using h r hr

/-! ### The response to a chunk read (R28, R84, R85, R92) -/

/-- A response that matches an entry. -/
theorem exec_downstreamResponse {itag : ITag} {s : State} {e : OutEntry} (st : BusStatus) (data : Vector Byte 256)
    (hr : s.inReset = false) (h : s.dnp.outstanding.find? (fun f => decide (f.itag = itag)) = some e) :
    exec (.downstreamResponse itag st data) s =
      .next ((s.entryTaken itag).deliver e st data.toList).settle :=
  congrArg Host.Outcome.next
    (State.event_some _ s _ hr (State.takeDownstream_some st data.toList h))

theorem State.deliver_swp_abandoned (s : State) (itag : ITag) (q : Seq) (st : BusStatus) (data : List Byte) :
    s.deliver ⟨itag, .swp q, true⟩ st data = s := rfl

/-- A chunk read's response carries the whole chunk. -/
theorem State.deliver_swp (s : State) (itag : ITag) (q : Seq) (st : BusStatus) (data : Vector Byte 256) :
    s.deliver ⟨itag, .swp q, false⟩ st data.toList = s.sweepAnswer q st data.toList := by
  have : data.toList.take Config.chunkBytes = data.toList := List.take_of_length_le (by simp)
  simp only [State.deliver, this]
  rfl

theorem State.sweepAnswer_own {s : State} {c : SweepCtx} {q : Seq} (st : BusStatus) (data : List Byte)
    (he : s.swp.engine = .reading c) (hq : q ∈ c.ownReads) :
    s.sweepAnswer q st data = s.ownReadAnswer c q st data := by
  simp [State.sweepAnswer, he, hq]

theorem State.sweepAnswer_other {s : State} {q : Seq} (st : BusStatus) (data : List Byte)
    (h : ∀ c, s.swp.engine = .reading c → q ∉ c.ownReads) :
    s.sweepAnswer q st data = s.otherReadAnswer q st data := by
  unfold State.sweepAnswer
  split
  · next c he => rw [if_neg (h c he)]
  · rfl

/-- A read of no current sweep acts on the FILLING record it names alone (R92). -/
theorem State.otherReadAnswer_some {s : State} {q : Seq} (st : BusStatus) (data : List Byte)
    (h : ∃ r ∈ s.jnl.records, r.seq = q ∧ r.state = .filling) :
    s.otherReadAnswer q st data = match st with
      | .okay => s.fillRecord q data
      | .fault => (s.voidRecord q).raise .sweepFault := by
  obtain ⟨r, hr⟩ := Jnl.fillingRecord_some h
  cases st <;> simp [State.otherReadAnswer, hr]

/-- A read whose record is no longer FILLING is dropped (R50). -/
theorem State.otherReadAnswer_none {s : State} {q : Seq} (st : BusStatus) (data : List Byte)
    (h : ∀ r ∈ s.jnl.records, r.seq = q → r.state ≠ .filling) : s.otherReadAnswer q st data = s := by
  cases st <;> simp [State.otherReadAnswer, Jnl.fillingRecord_none h]

/-- A FAULT for one of the sweep's own reads ends the sweep with its region DIVERGED (R85). -/
theorem State.ownReadAnswer_fault {s : State} {c : SweepCtx} {q : Seq} (data : List Byte)
    (hc : (s.region c.region).capturing = true) :
    s.ownReadAnswer c q .fault data = { s with
      jnl := (s.voidRecord q).jnl
      rgt := ⟨s.rgt.entries.set c.region { s.region c.region with state := .diverged }⟩
      swp := ⟨s.swp.queue.filter fun p => decide (p ≠ c.region), .idle⟩
      mgp := ((s.voidRecord q).mgp.raise .sweepFault).raiseDiverged c.region } := by
  have hvoid := s.voidRecord_frame q s rfl rfl
  unfold State.ownReadAnswer
  dsimp only
  rw [State.diverge_live]
  · rw [hvoid]
    simp [State.dropSweep, State.setRegionState, State.setRegion, State.raise, SweepEngine.ctx?, SweepCtx.answered,
      State.region]
  · rw [hvoid]
    exact hc

/-- Settles O21: an abandoned read is dropped, one of the sweep's own goes to `State.ownReadAnswer`, any other to
`State.otherReadAnswer`. -/
theorem downstreamResponseToSwp : Obligations.DownstreamResponseToSwp := by
  intro s itag data q ab hr hfind dnp filled voided
  have hexec := fun st => exec_downstreamResponse st data hr hfind
  have hvoid : (s.entryTaken itag).voidRecord q =
      { s.entryTaken itag with jnl := voided.jnl, mgp := voided.mgp } :=
    s.voidRecord_frame q (s.entryTaken itag) rfl rfl
  have hfill : (s.entryTaken itag).fillRecord q data.toList =
      { s.entryTaken itag with jnl := { s.jnl with records := filled } } := State.fillRecord_eq _ _ _
  refine ⟨fun hab st => ?_, fun hab c he hq => ⟨?_, fun hc => ?_⟩, fun hab hother => ⟨fun hex => ⟨?_, ?_⟩,
    fun hnone st => ?_⟩⟩
  all_goals subst hab
  · rw [hexec, State.deliver_swp_abandoned]
    rfl
  · rw [hexec, State.deliver_swp, State.sweepAnswer_own (s := s.entryTaken itag) .okay _ he hq,
      State.ownReadAnswer, hfill]
    rfl
  · rw [hexec, State.deliver_swp, State.sweepAnswer_own (s := s.entryTaken itag) .fault _ he hq,
      State.ownReadAnswer_fault (s := s.entryTaken itag) _ hc, hvoid]
    rfl
  · rw [hexec, State.deliver_swp, State.sweepAnswer_other (s := s.entryTaken itag) .okay _ hother,
      State.otherReadAnswer_some (s := s.entryTaken itag) .okay _ hex]
    dsimp only
    rw [hfill]
    rfl
  · rw [hexec, State.deliver_swp, State.sweepAnswer_other (s := s.entryTaken itag) .fault _ hother,
      State.otherReadAnswer_some (s := s.entryTaken itag) .fault _ hex]
    dsimp only
    rw [hvoid]
    rfl
  · rw [hexec, State.deliver_swp, State.sweepAnswer_other (s := s.entryTaken itag) st _ hother,
      State.otherReadAnswer_none (s := s.entryTaken itag) st _ hnone]
    rfl

/-! ### The stall timer (R22, R23) -/

/-- A region in which a head is in STALL captures writes (R21). -/
theorem State.capturing_of_stall {s : State} {x : RegionIx} (h : s.stallRegion = some x) :
    (s.region x).capturing = true := by
  unfold State.stallRegion at h
  split at h
  · cases h
  · obtain ⟨_, -, -, -, -, hc, -⟩ := (s.stallOf_iff _ x).1 h
    exact hc

/-- What the expiry of the stall timer does to a head in STALL (R23). -/
theorem State.stallActions_eq {s : State} {x : RegionIx} (h : (s.region x).capturing = true) :
    s.stallActions x = { s with
      rgt := ⟨s.rgt.entries.set x { s.region x with state := .diverged }⟩
      swp :=
        { queue := s.swp.queue.filter fun q => decide (q ≠ x)
          engine := if s.swp.engine.ctx?.any fun c => decide (c.region = x) then .idle else s.swp.engine }
      mgp := ((s.mgp.raiseDiverged x).raise .stallExpired).count .stalls } := by
  rw [State.stallActions, State.diverge_live x s h]
  rfl

/-- A divergence ends the STALL wait: the page's region is found as before, and captures no more. -/
theorem State.stallActions_stallRegion {s : State} {x : RegionIx} (h : s.stallRegion = some x) :
    ((s.stallActions x).region x).state = .diverged ∧ (s.stallActions x).stallRegion = none := by
  have hc := State.capturing_of_stall h
  have hregion : ∀ q, (s.stallActions x).region q =
      if q = x then { s.region x with state := .diverged } else s.region q := by
    intro q
    rw [State.stallActions_eq hc]
    exact s.region_setRegion x q { s.region x with state := .diverged }
  have hlookup : ∀ p, (s.stallActions x).lookup p = s.lookup p := by
    intro p
    unfold State.lookup
    congr 1
    funext q
    rw [hregion q]
    split
    · next hq => simp [hq, Region.live_of_capturing hc]
    · rfl
  refine ⟨by rw [hregion, if_pos rfl], ?_⟩
  unfold State.stallRegion at h ⊢
  rw [State.stallActions_upi]
  split at h
  · cases h
  · next r _ hin =>
    rw [Option.eq_none_iff_forall_ne_some]
    intro y hy
    obtain ⟨_, -, -, -, hl, -⟩ := (s.stallOf_iff r x).1 h
    obtain ⟨_, -, -, -, hl', hc', -⟩ := (State.stallOf_iff _ r y).1 hy
    rw [hlookup, hl] at hl'
    cases hl'
    rw [hregion, if_pos rfl] at hc'
    simp [Region.capturing] at hc'

/-- Settles O22: the check of the STALL wait by the timer's three cases, and the expiry by whether the head is in
STALL. -/
theorem stallTimerRunsAndExpires : Obligations.StallTimerRunsAndExpires := by
  refine ⟨fun s => ⟨?_, fun hnone => ?_⟩, fun s x hx => ⟨fun hs => ?_, fun t hs ht => ?_, fun t hs ht => ?_⟩,
    fun s d hr hs hd => ⟨fun hnone => ?_, fun x hx => ?_⟩⟩
  · unfold State.stallRegion
    cases s.upi.intake <;> rfl
  · simp [State.stallCheck, hnone]
  · simp [State.stallCheck, hx, hs]
  · simp [State.stallCheck, hx, hs, ht]
  · have hcheck : s.stallCheck = s.stallActions x := by simp [State.stallCheck, hx, hs, ht]
    obtain ⟨hstate, hend⟩ := State.stallActions_stallRegion hx
    rw [hcheck]
    exact ⟨hstate, hend, by rw [State.stallActions_eq (State.capturing_of_stall hx)]⟩
  · have hexpire : s.expireStall = some { s with
        upi := { s.upi with stall := some { d with expired := true } }, now := max s.now (d.start + d.length) } := by
      simp [State.expireStall, hs, hd, hnone, State.reach]
    exact congrArg Host.Outcome.next (State.event_some _ s _ hr hexpire)
  · have hexpire : s.expireStall = some (State.stallActions x { s with
        upi := { s.upi with stall := some { d with expired := true } }, now := max s.now (d.start + d.length) }) := by
      simp [State.expireStall, hs, hd, hx, State.reach]
    rw [State.stallActions_eq (s := { s with
      upi := { s.upi with stall := some { d with expired := true } }, now := max s.now (d.start + d.length) })
      (State.capturing_of_stall hx)] at hexpire
    exact congrArg Host.Outcome.next (State.event_some _ s _ hr hexpire)

/-! ### The state after RESET (R35) -/

/-- Settles O3: the values are read off `State.reset`, and each law is evaluated on it. -/
theorem resetValues : Obligations.ResetValues := by
  have hregion : ∀ r : RegionIx, State.reset.region r = Region.afterReset := by decide
  have hflags : ∀ k : Fin 16, State.reset.mgp.events[k] = ⟨false, 0⟩ ∧ State.reset.mgp.divergedMask[k] = false ∧
      State.reset.mgp.enableMask[k] = false ∧ State.reset.mgp.counters[k] = 0 := by decide
  refine ⟨⟨rfl, rfl, rfl, rfl⟩, fun r => ?_, ⟨rfl, rfl⟩, ⟨rfl, rfl, rfl, rfl, rfl, rfl, rfl⟩,
    ⟨rfl, rfl, rfl, rfl, rfl⟩, ⟨rfl, rfl, rfl, rfl, rfl, rfl⟩, ⟨rfl, rfl, rfl⟩, ⟨rfl, rfl, rfl, rfl⟩,
    ⟨rfl, by decide, hflags⟩, rfl, by decide +kernel⟩
  rw [hregion]
  exact ⟨rfl, rfl, rfl, rfl, rfl⟩

end Sys2Proof.Machine

namespace Sys2Proof.Machine

/-! ### Numbers as bytes (12_formats) -/

@[simp] theorem beBytes_length (k n : Nat) : (beBytes k n).length = k := by
  induction k generalizing n with
  | zero => rfl
  | succ k ih => simp [beBytes, ih]

theorem beNat_append_singleton (l : List Byte) (b : Byte) : beNat (l ++ [b]) = beNat l * 256 + b.toNat := by
  simp [beNat]

/-- Bytes spell the number they were made from, as far as they reach. -/
theorem beNat_beBytes (k n : Nat) : beNat (beBytes k n) = n % 256 ^ k := by
  induction k generalizing n with
  | zero => simp [beBytes, beNat, Nat.mod_one]
  | succ k ih =>
    rw [beBytes, beNat_append_singleton, ih, Nat.pow_succ', Nat.mod_mul, BitVec.toNat_ofNat]
    omega

theorem beNat_beBytes_of_lt {k n : Nat} (h : n < 256 ^ k) : beNat (beBytes k n) = n := by
  rw [beNat_beBytes, Nat.mod_eq_of_lt h]

/-- The bytes made from the number that bytes spell are those bytes. -/
theorem beBytes_beNat (l : List Byte) : beBytes l.length (beNat l) = l := by
  induction l using List.reverseRecOn with
  | nil => rfl
  | append_singleton l b ih =>
    have hb := b.isLt
    have hdiv : (beNat l * 256 + b.toNat) / 256 = beNat l := by omega
    have hlow : BitVec.ofNat 8 (beNat l * 256 + b.toNat) = b := by
      apply BitVec.eq_of_toNat_eq
      rw [BitVec.toNat_ofNat]
      omega
    rw [List.length_append, List.length_singleton, beBytes, beNat_append_singleton, hdiv, hlow, ih]

theorem beNat_lt (l : List Byte) : beNat l < 256 ^ l.length := by
  induction l using List.reverseRecOn with
  | nil => simp [beNat]
  | append_singleton l b ih =>
    have hb := b.isLt
    rw [beNat_append_singleton, List.length_append, List.length_singleton, Nat.pow_succ]
    omega

/-! ### Codes of two values (12.2) -/

theorem enumOf_eq_some {α : Type} {zero one a : α} {b : Byte} (h : enumOf zero one b = some a) :
    b = 0 ∧ a = zero ∨ b = 1 ∧ a = one := by
  unfold enumOf at h
  split at h
  · exact .inl ⟨‹_›, (Option.some.inj h).symm⟩
  · split at h
    · exact .inr ⟨‹_›, (Option.some.inj h).symm⟩
    · cases h

theorem enumOf_direction (d : Direction) : enumOf .source .target d.code = some d := by cases d <;> rfl
theorem enumOf_mode (m : Mode) : enumOf .async .sync m.code = some m := by cases m <;> rfl
theorem enumOf_fullPolicy (p : FullPolicy) : enumOf .stall .drop p.code = some p := by cases p <;> rfl
theorem enumOf_action (a : TimeoutAction) : enumOf .fail .degrade a.code = some a := by cases a <;> rfl
theorem enumOf_stray (p : StrayPolicy) : enumOf .pass .reject p.code = some p := by cases p <;> rfl
theorem enumOf_flag (b : Bool) : enumOf false true (BitVec.ofNat 8 b.toNat) = some b := by cases b <;> rfl

/-! ### The ten fields of REGION.SET (R1, R2, R4) -/

theorem RegionFields.inRange_iff (f : RegionFields) : f.inRange = true ↔
    (f.basePage ≤ 2 ^ 28 - 1 ∧ 1 ≤ f.size ∧ f.size ≤ 2 ^ 28 ∧ f.basePage + f.size ≤ 2 ^ 28) ∧
      (1 ≤ f.timeout ∧ f.timeout ≤ 65535) ∧
      0 ≤ (f.basePage : Int) + f.displacement ∧
      (f.basePage : Int) + f.size + f.displacement - 1 ≤ 2 ^ 28 - 1 := by
  rw [RegionFields.inRange, decide_eq_true_iff]
  constructor
  · rintro ⟨hb, hs, hend, ht, ht', hlow, hhigh⟩
    have hcount : Config.pageCount = 2 ^ 28 := rfl
    rw [hcount] at hb hend
    refine ⟨⟨by omega, hs, by omega, hend⟩, ⟨ht, ht'⟩, hlow, hhigh⟩
  · rintro ⟨⟨hb, hs, -, hend⟩, ⟨ht, ht'⟩, hlow, hhigh⟩
    have hcount : Config.pageCount = 2 ^ 28 := rfl
    refine ⟨by rw [hcount]; omega, hs, hend, ht, ht', hlow, hhigh⟩

/-- The place of each field in a REGION.SET payload (12.2). -/
theorem field_encodeFields (f : RegionFields) (b : Byte) :
    field (b :: encodeFields f) 1 4 = beNat (beBytes 4 f.basePage) ∧
      field (b :: encodeFields f) 5 4 = beNat (beBytes 4 f.size) ∧
      field (b :: encodeFields f) 11 4 = beNat (beBytes 4 (BitVec.ofInt 32 f.displacement).toNat) ∧
      field (b :: encodeFields f) 16 2 = beNat (beBytes 2 f.timeout) := ⟨rfl, rfl, rfl, rfl⟩

/-- The ten fields are read back from the bytes they are put in (12.2). -/
theorem fieldsOf_encodeFields (f : RegionFields) (b : Byte) (h : f.inRange = true) :
    fieldsOf (b :: encodeFields f) = some f := by
  obtain ⟨⟨hb, hs, hs', hend⟩, ⟨ht, ht'⟩, hlow, hhigh⟩ := f.inRange_iff.1 h
  obtain ⟨hbase, hsize, hdisp, htime⟩ := field_encodeFields f b
  have hdisp' : (seqField (b :: encodeFields f) 11).toInt = f.displacement := by
    rw [seqField, hdisp, beNat_beBytes_of_lt (BitVec.isLt _), BitVec.ofNat_toNat, BitVec.setWidth_eq,
      BitVec.toInt_ofInt]
    exact Int.bmod_eq_of_le (by norm_num; omega) (by norm_num; omega)
  have h9 : (b :: encodeFields f).getD 9 0 = f.direction.code := rfl
  have h10 : (b :: encodeFields f).getD 10 0 = f.mode.code := rfl
  have h15 : (b :: encodeFields f).getD 15 0 = f.fullPolicy.code := rfl
  have h18 : (b :: encodeFields f).getD 18 0 = f.action.code := rfl
  have h19 : (b :: encodeFields f).getD 19 0 = f.stray.code := rfl
  have h20 : (b :: encodeFields f).getD 20 0 = BitVec.ofNat 8 f.autoResync.toNat := rfl
  rw [fieldsOf, h9, h10, h15, h18, h19, h20, enumOf_direction, enumOf_mode, enumOf_fullPolicy, enumOf_action,
    enumOf_stray, enumOf_flag, hbase, hsize, hdisp', htime, beNat_beBytes_of_lt (by omega),
    beNat_beBytes_of_lt (by omega), beNat_beBytes_of_lt (by omega)]
  rfl

/-- A payload that gives ten fields is the bytes of those fields (12.2). -/
theorem encodeFields_of_fieldsOf {b : Byte} {p : List Byte} {f : RegionFields} (hlen : p.length = 20)
    (h : fieldsOf (b :: p) = some f) : p = encodeFields f := by
  match p, hlen with
  | [p0, p1, p2, p3, p4, p5, p6, p7, p8, p9, p10, p11, p12, p13, p14, p15, p16, p17, p18, p19], _ =>
    simp only [fieldsOf, bind, Option.bind_eq_some_iff, Option.some.injEq] at h
    obtain ⟨direction, hdir, mode, hmode, policy, hpolicy, action, haction, stray, hstray, auto, hauto, rfl⟩ := h
    have hdir' : p8 = direction.code := by
      rcases enumOf_eq_some hdir with ⟨hb, rfl⟩ | ⟨hb, rfl⟩ <;> exact hb
    have hmode' : p9 = mode.code := by
      rcases enumOf_eq_some hmode with ⟨hb, rfl⟩ | ⟨hb, rfl⟩ <;> exact hb
    have hpolicy' : p14 = policy.code := by
      rcases enumOf_eq_some hpolicy with ⟨hb, rfl⟩ | ⟨hb, rfl⟩ <;> exact hb
    have haction' : p17 = action.code := by
      rcases enumOf_eq_some haction with ⟨hb, rfl⟩ | ⟨hb, rfl⟩ <;> exact hb
    have hstray' : p18 = stray.code := by
      rcases enumOf_eq_some hstray with ⟨hb, rfl⟩ | ⟨hb, rfl⟩ <;> exact hb
    have hauto' : p19 = BitVec.ofNat 8 auto.toNat := by
      rcases enumOf_eq_some hauto with ⟨hb, rfl⟩ | ⟨hb, rfl⟩ <;> exact hb
    have hdisp : (BitVec.ofInt 32 (BitVec.ofNat 32 (beNat [p10, p11, p12, p13])).toInt).toNat =
        beNat [p10, p11, p12, p13] := by
      rw [BitVec.ofInt_toInt, BitVec.toNat_ofNat]
      have hlt := beNat_lt [p10, p11, p12, p13]
      norm_num at hlt
      exact Nat.mod_eq_of_lt (by norm_num; exact hlt)
    have hbase : beBytes 4 (beNat [p0, p1, p2, p3]) = [p0, p1, p2, p3] := beBytes_beNat [p0, p1, p2, p3]
    have hsize : beBytes 4 (beNat [p4, p5, p6, p7]) = [p4, p5, p6, p7] := beBytes_beNat [p4, p5, p6, p7]
    have hdisp' : beBytes 4 (beNat [p10, p11, p12, p13]) = [p10, p11, p12, p13] := beBytes_beNat [p10, p11, p12, p13]
    have htime : beBytes 2 (beNat [p15, p16]) = [p15, p16] := beBytes_beNat [p15, p16]
    calc [p0, p1, p2, p3, p4, p5, p6, p7, p8, p9, p10, p11, p12, p13, p14, p15, p16, p17, p18, p19]
        = [p0, p1, p2, p3] ++ [p4, p5, p6, p7] ++ [p8, p9] ++ [p10, p11, p12, p13] ++ [p14] ++ [p15, p16] ++
          [p17, p18, p19] := rfl
      _ = _ := by
        rw [← hbase, ← hsize, ← hdisp', ← htime, ← hdisp, hdir', hmode', hpolicy', haction', hstray', hauto']
        rfl

/-! ### The ten parameters of LINK.SET (R153) -/

theorem LinkParams.inRange_iff (q : LinkParams) : q.inRange = true ↔
    (16 ≤ q.guard ∧ q.guard ≤ 1023) ∧ (1 ≤ q.dwell ∧ q.dwell ≤ 1000) ∧
      (10 ≤ q.silence ∧ q.silence ≤ 10000 ∧ 2 * q.dwell ≤ q.silence) ∧
      (10 ≤ q.ackTimeout ∧ q.ackTimeout ≤ 65535) ∧ (1 ≤ q.burst ∧ q.burst ≤ 16) ∧
      (1 ≤ q.window ∧ q.window ≤ 1024) ∧ (50 ≤ q.helloInterval ∧ q.helloInterval ≤ 10000) ∧
      (1 ≤ q.trainingLimit ∧ q.trainingLimit ≤ 1000) ∧ q.retrainDelay ≤ 1000 := by
  rw [LinkParams.inRange, decide_eq_true_iff]
  simp only [and_assoc]

theorem roleOf_code (r : Role) : roleOf r.code = some r := by cases r <;> rfl

/-- The place of each parameter in a LINK.SET payload (12.2). -/
theorem field_encodeParams (q : LinkParams) :
    (field (encodeParams q) 1 2 = beNat (beBytes 2 q.guard) ∧ field (encodeParams q) 3 2 = beNat (beBytes 2 q.dwell) ∧
      field (encodeParams q) 5 2 = beNat (beBytes 2 q.silence) ∧
      field (encodeParams q) 7 2 = beNat (beBytes 2 q.ackTimeout)) ∧
    (field (encodeParams q) 9 1 = beNat (beBytes 1 q.burst) ∧
      field (encodeParams q) 10 2 = beNat (beBytes 2 q.window)) ∧
    field (encodeParams q) 12 2 = beNat (beBytes 2 q.helloInterval) ∧
    field (encodeParams q) 14 2 = beNat (beBytes 2 q.trainingLimit) ∧
    field (encodeParams q) 16 2 = beNat (beBytes 2 q.retrainDelay) :=
  ⟨⟨rfl, rfl, rfl, rfl⟩, ⟨rfl, rfl⟩, rfl, rfl, rfl⟩

/-- The ten parameters are read back from the bytes they are put in (12.2). -/
theorem paramsOf_encodeParams (q : LinkParams) (h : q.inRange = true) : paramsOf (encodeParams q) = some q := by
  obtain ⟨⟨-, hg⟩, ⟨-, hd⟩, ⟨-, hs, -⟩, ⟨-, ha⟩, ⟨-, hb⟩, ⟨-, hw⟩, ⟨-, hh⟩, ⟨-, ht⟩, hr⟩ := q.inRange_iff.1 h
  obtain ⟨⟨hguard, hdwell, hsilence, hack⟩, ⟨hburst, hwindow⟩, hhello, htrain, hretrain⟩ := field_encodeParams q
  have h0 : (encodeParams q).getD 0 0 = q.role.code := rfl
  rw [paramsOf, h0, roleOf_code, hguard, hdwell, hsilence, hack, hburst, hwindow, hhello, htrain, hretrain]
  iterate 9 rw [beNat_beBytes_of_lt (by omega)]
  rfl

/-! ### A set of 16 flags (12.2) -/

/-- The number a list of flags stands for, flag k at bit k. -/
theorem foldr_flags_testBit (l : List Bool) (k : Nat) :
    (l.foldr (fun (b : Bool) (n : Nat) => n * 2 + b.toNat) 0).testBit k = l.getD k false := by
  induction l generalizing k with
  | nil => simp
  | cons b l ih =>
    have hb : b.toNat < 2 := b.toNat_lt
    cases k with
    | zero =>
      simp only [List.foldr_cons, Nat.testBit_zero, List.getD_cons_zero]
      cases b <;> simp
    | succ k =>
      simp only [List.foldr_cons, Nat.testBit_succ, List.getD_cons_succ, ← ih k]
      congr 1
      omega

theorem foldr_flags_lt (l : List Bool) : l.foldr (fun (b : Bool) (n : Nat) => n * 2 + b.toNat) 0 < 2 ^ l.length := by
  induction l with
  | nil => simp
  | cons b l ih =>
    have hb : b.toNat < 2 := b.toNat_lt
    rw [List.foldr_cons, List.length_cons, Nat.pow_succ]
    omega

/-- The number of a set of 16 flags. -/
def flagsNat (v : Vector Bool 16) : Nat := v.toList.foldr (fun (b : Bool) (n : Nat) => n * 2 + b.toNat) 0

theorem flagsNat_testBit (v : Vector Bool 16) (k : Fin 16) : (flagsNat v).testBit k.val = v[k] := by
  rw [flagsNat, foldr_flags_testBit]
  simp

theorem flagsNat_lt (v : Vector Bool 16) : flagsNat v < 65536 := by
  have := foldr_flags_lt v.toList
  rw [Vector.length_toList] at this
  exact this

theorem flags16_eq (v : Vector Bool 16) :
    flags16 v = [BitVec.ofNat 8 (flagsNat v / 256), BitVec.ofNat 8 (flagsNat v)] := rfl

/-- A set of flags is read back from its two bytes (12.2). -/
theorem flagsOf_flags16 (v : Vector Bool 16) : flagsOf (flags16 v) = v := by
  have hfield : field (flags16 v) 0 2 = flagsNat v := beNat_beBytes_of_lt (k := 2) (flagsNat_lt v)
  ext k hk
  simp only [flagsOf, hfield, Vector.getElem_ofFn]
  exact flagsNat_testBit v ⟨k, hk⟩

/-- Flag k is bit k, counting from bit 0 of the second byte (12.2). -/
theorem flags16_bit (v : Vector Bool 16) (k : Fin 16) :
    ((flags16 v).getD (1 - k.val / 8) 0).getLsbD (k.val % 8) = v[k] := by
  have hbyte : ∀ n i : Nat, i < 8 → (BitVec.ofNat 8 n).getLsbD i = n.testBit i := by
    intro n i hi
    rw [BitVec.getLsbD_ofNat, decide_eq_true hi, Bool.true_and]
  rw [← flagsNat_testBit v k, flags16_eq]
  by_cases hk : k.val < 8
  · have h0 : k.val / 8 = 0 := by omega
    rw [h0, Nat.mod_eq_of_lt hk]
    exact hbyte _ _ hk
  · have h1 : k.val / 8 = 1 := by omega
    have hm : 8 + k.val % 8 = k.val := by omega
    rw [h1]
    refine (hbyte (flagsNat v / 2 ^ 8) (k.val % 8) (by omega)).trans ?_
    rw [Nat.testBit_div_two_pow, Nat.add_comm, hm]

/-! ### The command of a transaction's bytes (R167, R169) -/

/-- A transaction's bytes are those of the command it carries. -/
theorem encodeTransaction_decodeTransaction (fell : Bool) (tail : List Bool) (bytes : List Byte) :
    encodeTransaction (decodeTransaction fell tail bytes) = some bytes := by
  cases bytes with
  | nil => rfl
  | cons code rest =>
    have hcode : ∀ n, n < 256 → code.toNat = n → code = BitVec.ofNat 8 n := by
      intro n hn hc
      apply BitVec.eq_of_toNat_eq
      rw [hc, BitVec.toNat_ofNat, Nat.mod_eq_of_lt hn]
    unfold decodeTransaction
    dsimp only
    split
    case h_21 => rfl
    all_goals
      next hc =>
      rw [hcode _ (by norm_num) hc]
      rfl

/-- A well-formed command of the port is the one its bytes decode to. -/
theorem decodeTransaction_encodeTransaction (c : Instr) (bytes : List Byte) (hwf : c.wellFormed = true)
    (h : encodeTransaction c = some bytes) : ∃ fell tail, decodeTransaction fell tail bytes = c := by
  cases c with
  | undefinedRequest t =>
    obtain ⟨fell, tbytes, tail⟩ := t
    cases h
    refine ⟨fell, tail, ?_⟩
    cases tbytes with
    | nil => rfl
    | cons code rest =>
      have hcode : code ∉ requestCodes := by simpa [Instr.wellFormed] using (Bool.and_eq_true_iff.1 hwf).2
      have hne : ∀ n, BitVec.ofNat 8 n ∈ requestCodes → code.toNat ≠ n := by
        intro n hn hc
        rw [← hc, BitVec.ofNat_toNat, BitVec.setWidth_eq] at hn
        exact hcode hn
      unfold decodeTransaction
      dsimp only
      split
      case h_21 => rfl
      all_goals
        next hc => exact absurd hc (hne _ (by decide))
  | _ => cases h <;> exact ⟨_, _, rfl⟩

/-- Settles O54: the ranges read out, the layouts by what they are defined to be, and each format read back by its
own lemma above. -/
theorem portFormatsReadBack : Obligations.PortFormatsReadBack := by
  refine ⟨RegionFields.inRange_iff, LinkParams.inRange_iff, fun f => ?_, fun q => rfl, flags16_bit, fun r => rfl, ?_,
    ?_, fun f b h => ⟨fieldsOf_encodeFields f b h, by simp [encodeFields]⟩,
    fun q h => ⟨paramsOf_encodeParams q h, by simp [encodeParams]⟩,
    fun v => ⟨flagsOf_flags16 v, rfl⟩, encodeTransaction_decodeTransaction, decodeTransaction_encodeTransaction⟩
  · unfold encodeFields
    cases f.autoResync <;> rfl
  · exact ⟨rfl, rfl, rfl, rfl, rfl, rfl, rfl, rfl, rfl, rfl, rfl, rfl, rfl, fun _ => rfl, fun _ => rfl, fun _ => rfl⟩
  · intro request code hmem
    simp only [List.mem_cons, Prod.mk.injEq, List.not_mem_nil, or_false] at hmem
    rcases hmem with h | h | h | h | h | h | h | h | h | h | h | h | h | h | h | h | h | h | h | h
    all_goals
      obtain ⟨rfl, rfl⟩ := h
      exact ⟨by decide, rfl, fun _ => rfl⟩

end Sys2Proof.Machine

namespace Sys2Proof.Machine

/-! ### A request and its outcome (R168, R169, R171) -/

/-- What MG_MISO carries touches neither table nor sweep nor journal. -/
@[simp] theorem State.shiftOut_region (n m : Nat) (s : State) (r : RegionIx) :
    (s.shiftOut n m).region r = s.region r := rfl

theorem regionIxOf_val {b : Byte} {r : RegionIx} (h : b.toNat = r.val) : regionIxOf b = some r := by
  unfold regionIxOf
  rw [dif_pos (by omega)]
  exact congrArg some (Fin.ext h)

theorem regionIxOf_none {b : Byte} (h : 16 ≤ b.toNat) : regionIxOf b = none := dif_neg (by omega)

/-- A request with a region's index is that region's. -/
theorem withRegion_some {b : Byte} {p : List Byte} {f : RegionIx → Verdict} {r : RegionIx} (h : b.toNat = r.val) :
    withRegion (b :: p) f = f r := by
  simp only [withRegion, List.getD_cons_zero, regionIxOf_val h]

/-- An index outside 0 to 15 is refused (R171). -/
theorem withRegion_none {b : Byte} {p : List Byte} {f : RegionIx → Verdict} (h : 16 ≤ b.toNat) :
    withRegion (b :: p) f = .refused .badIndex := by
  simp only [withRegion, List.getD_cons_zero, regionIxOf_none h]

/-- The state a verdict comes to, from the state with MG_MISO as it is (R168, R169). -/
def Verdict.state (u : State) : Verdict → State
  | .refused st => u.answer st []
  | .answered q v => v.answer .ok q
  | .acted v => (v.answer .ok []).settle

/-- A request whose length is right comes to the state of its verdict (R169). -/
theorem State.transaction_state {t : Transaction} {s : State} {len : Nat} {l : Byte} {p : List Byte}
    (run : List Byte → State → Verdict) (hr : s.inReset = false) (hf : t.fell = true) (ht : t.bytes = l :: p)
    (hl : l.toNat = len) (hp : p.length = len) :
    s.transaction t len run =
      (run p (s.shiftOut (p.length + 2) t.tail.length)).state (s.shiftOut (p.length + 2) t.tail.length) := by
  rw [s.transaction_runs t len run p hr hf (by rw [ht]; exact payloadOf_eq len l p hl hp), ht, List.length_cons]
  cases run p (s.shiftOut (p.length + 2) t.tail.length) <;> rfl

/-! ### REGION.SET (R2) -/

/-- Settles O45: the checks in order, and the payload against the bytes of fields in range. -/
theorem regionSetLoadsTheFields : Obligations.RegionSetLoadsTheFields := by
  intro t s b p hr hf ht hp u refused
  have hexec : exec (.regionSet t) s = .next ((u.regionSet (b :: p)).state u) := by
    have := State.transaction_state (fun p s => s.regionSet p) hr hf ht rfl (by simp [hp])
    rw [List.length_cons, hp] at this
    exact congrArg Host.Outcome.next this
  have hrefused : ∀ st, u.regionSet (b :: p) = .refused st → refused st := fun st h => by
    simp only [refused, hexec, h]
    rfl
  refine ⟨fun hb => hrefused _ (withRegion_none hb), fun r hb => ⟨fun hlive => ?_, fun hdis hno => ?_,
    fun hdis f hrange henc => ?_⟩⟩
  · refine hrefused _ ((withRegion_some hb).trans (if_pos hlive))
  · refine hrefused _ ((withRegion_some hb).trans ((if_neg (not_not_intro hdis)).trans ?_))
    cases hfields : fieldsOf (b :: p) with
    | none => rfl
    | some f =>
      have hout : f.inRange ≠ true := fun hin => hno f hin (encodeFields_of_fieldsOf hp hfields)
      exact if_neg hout
  · have hset : u.regionSet (b :: p) = .answered [] (u.setRegion r { u.region r with fields := f }) := by
      refine (withRegion_some hb).trans ((if_neg (not_not_intro hdis)).trans ?_)
      rw [henc, fieldsOf_encodeFields f b hrange]
      exact if_pos hrange
    rw [hexec, hset]
    rfl

/-! ### REGION.ENABLE (R5 to R7) -/

/-- Two runs of pages that are not empty share a page when some page lies in both (R5). -/
theorem RegionFields.sharesPage_iff {f g : RegionFields} (hf : 1 ≤ f.size) (hg : 1 ≤ g.size) :
    f.sharesPage g = true ↔ ∃ page, f.basePage ≤ page ∧ page < f.basePage + f.size ∧
      g.basePage ≤ page ∧ page < g.basePage + g.size := by
  rw [RegionFields.sharesPage, decide_eq_true_iff]
  constructor
  · rintro ⟨h1, h2⟩
    exact ⟨max f.basePage g.basePage, by omega, by omega, by omega, by omega⟩
  · rintro ⟨page, h1, h2, h3, h4⟩
    omega

theorem Rgt.size_pos {s : State} (h : s.rgt.inRange = true) (r : RegionIx) : 1 ≤ (s.region r).fields.size := by
  have hr := List.all_eq_true.1 h r (List.mem_finRange r)
  exact ((RegionFields.inRange_iff _).1 hr).1.2.1

/-- An entry overlaps when some page lies in it and in another live entry (R5). -/
theorem State.overlaps_iff {s : State} (h : s.rgt.inRange = true) (r : RegionIx) :
    s.overlaps r = true ↔ ∃ (q : RegionIx) (page : Nat), q ≠ r ∧ (s.region q).state ≠ .disabled ∧
      (s.region r).fields.basePage ≤ page ∧ page < (s.region r).fields.basePage + (s.region r).fields.size ∧
      (s.region q).fields.basePage ≤ page ∧
      page < (s.region q).fields.basePage + (s.region q).fields.size := by
  simp only [State.overlaps, List.any_eq_true, List.mem_finRange, true_and, Bool.and_eq_true, decide_eq_true_eq,
    RegionFields.sharesPage_iff (Rgt.size_pos h r) (Rgt.size_pos h _), exists_and_left, and_assoc]

/-- A SOURCE entry is enabled DIVERGED, or RESYNCING at the tail of the resync queue (R7). -/
theorem State.enableRegion_source {s : State} {r : RegionIx} (h : (s.region r).fields.direction = .source) :
    s.enableRegion r =
      let resync := (s.region r).fields.autoResync && s.linkUp
      { s with
        rgt := ⟨s.rgt.entries.set r { s.region r with state := if resync then .resyncing else .diverged }⟩
        swp := { s.swp with queue := if resync then s.swp.queue ++ [r] else s.swp.queue } } := by
  simp only [State.enableRegion, h]
  cases ((s.region r).fields.autoResync && s.linkUp) with
  | false => rfl
  | true => simp [State.toResyncing, State.setRegionState, State.setRegion, State.region]

/-- Settles O46: the checks in order, the overlap by the page both entries hold, and the entry's new state by its
direction. -/
theorem regionEnableTestsTheOverlap : Obligations.RegionEnableTestsTheOverlap := by
  intro t s b hr hf ht hrange u refused
  have hexec : exec (.regionEnable t) s = .next ((u.regionEnable [b]).state u) :=
    congrArg Host.Outcome.next (State.transaction_state (fun p s => s.regionEnable p) hr hf ht rfl rfl)
  have hrefused : ∀ st, u.regionEnable [b] = .refused st → refused st := fun st h => by
    simp only [refused, hexec, h]
    rfl
  have hacted : ∀ v, u.regionEnable [b] = .acted v →
      exec (.regionEnable t) s = .next (v.answer .ok []).settle := fun v h => by
    rw [hexec, h]
    rfl
  refine ⟨fun hb => hrefused _ (withRegion_none hb), fun r hb => ?_⟩
  have hrun := withRegion_some (p := []) (f := fun r =>
    if (u.region r).state ≠ .disabled then .refused .badState
    else if u.overlaps r then .refused .overlap else .acted (u.enableRegion r)) hb
  refine ⟨fun hlive => hrefused _ (hrun.trans (if_pos hlive)), fun hdis hover => ?_, fun hdis hno => ?_⟩
  · have hover : u.overlaps r = true := (State.overlaps_iff (s := u) hrange r).2 hover
    exact hrefused _ (hrun.trans ((if_neg (not_not_intro hdis)).trans (if_pos hover)))
  · have hno : ¬ u.overlaps r = true := fun hover => hno ((State.overlaps_iff (s := u) hrange r).1 hover)
    have henabled := hacted _ (hrun.trans ((if_neg (not_not_intro hdis)).trans (if_neg hno)))
    refine ⟨fun htarget => ?_, fun hsource => ?_⟩
    · have heq : u.enableRegion r = u.setRegionState r .active := by
        have htarget : (u.region r).fields.direction = .target := htarget
        simp only [State.enableRegion, htarget]
      rw [heq] at henabled
      exact henabled
    · rw [State.enableRegion_source (s := u) hsource] at henabled
      exact henabled

/-! ### REGION.DISABLE, REGION.RESYNC and REGION.MODE (R8, R11, R12) -/

section outcomes

variable {t : Transaction} {s : State} {b : Byte} (hr : s.inReset = false) (hf : t.fell = true)

include hr hf

theorem exec_regionDisable (ht : t.bytes = [1, b]) : exec (.regionDisable t) s =
    .next (((s.shiftOut 3 t.tail.length).regionDisable [b]).state (s.shiftOut 3 t.tail.length)) :=
  congrArg Host.Outcome.next (State.transaction_state (fun p s => s.regionDisable p) hr hf ht rfl rfl)

theorem exec_regionResync (ht : t.bytes = [1, b]) : exec (.regionResync t) s =
    .next (((s.shiftOut 3 t.tail.length).regionResync [b]).state (s.shiftOut 3 t.tail.length)) :=
  congrArg Host.Outcome.next (State.transaction_state (fun p s => s.regionResync p) hr hf ht rfl rfl)

theorem exec_regionMode {m : Byte} (ht : t.bytes = [2, b, m]) : exec (.regionMode t) s =
    .next (((s.shiftOut 4 t.tail.length).regionMode [b, m]).state (s.shiftOut 4 t.tail.length)) :=
  congrArg Host.Outcome.next (State.transaction_state (fun p s => s.regionMode p) hr hf ht rfl rfl)

end outcomes

/-- An undefined mode code (12.2). -/
theorem enumOf_undefined {α : Type} {zero one : α} {m : Byte} (h : 2 ≤ m.toNat) : enumOf zero one m = none := by
  cases hm : enumOf zero one m with
  | none => rfl
  | some a => rcases enumOf_eq_some hm with ⟨rfl, -⟩ | ⟨rfl, -⟩ <;> exact absurd h (by decide)

/-- Settles O47: each request by its own checks in order. -/
theorem regionDisableResyncAndMode : Obligations.RegionDisableResyncAndMode := by
  intro t s b hr hf u
  have htarget : ∀ {d : Direction}, d = .target → d ≠ .source := by rintro _ rfl; decide
  refine ⟨fun hb => ⟨fun ht => ⟨?_, ?_⟩, fun m ht => ?_⟩, fun r hb => ⟨fun ht => ⟨fun hdis => ?_, fun hlive => ?_,
    fun hsrc hdiv => ?_, fun hother => ?_⟩, fun m ht => ⟨fun hother => ?_, fun hsrc hlive hm => ?_,
    fun hsrc hlive mode hm => ?_⟩⟩⟩
  · rw [exec_regionDisable hr hf ht, State.regionDisable, withRegion_none hb]
    rfl
  · rw [exec_regionResync hr hf ht, State.regionResync, withRegion_none hb]
    rfl
  · rw [exec_regionMode hr hf ht, State.regionMode, withRegion_none hb]
    rfl
  · rw [exec_regionDisable hr hf ht, State.regionDisable, withRegion_some hb, State.shiftOut_region, if_pos hdis]
    rfl
  · rw [exec_regionDisable hr hf ht, State.regionDisable, withRegion_some hb, State.shiftOut_region, if_neg hlive]
    rfl
  · rw [exec_regionResync hr hf ht, State.regionResync, withRegion_some hb, State.shiftOut_region,
      if_pos ⟨hsrc, hdiv⟩]
    rfl
  · have hno : ¬ ((s.region r).fields.direction = .source ∧ (s.region r).state = .diverged) := fun ⟨hsrc, hdiv⟩ =>
      hother.elim (fun h => htarget h hsrc) (fun h => h hdiv)
    rw [exec_regionResync hr hf ht, State.regionResync, withRegion_some hb, State.shiftOut_region, if_neg hno]
    rfl
  · have hno : ¬ ((s.region r).fields.direction = .source ∧ (s.region r).state ≠ .disabled) := fun ⟨hsrc, hlive⟩ =>
      hother.elim (fun h => htarget h hsrc) hlive
    rw [exec_regionMode hr hf ht, State.regionMode, withRegion_some hb, State.shiftOut_region, if_neg hno]
    rfl
  · rw [exec_regionMode hr hf ht, State.regionMode, withRegion_some hb, State.shiftOut_region,
      if_pos ⟨hsrc, hlive⟩, List.getD_cons_succ, List.getD_cons_zero, enumOf_undefined hm]
    rfl
  · rw [exec_regionMode hr hf ht, State.regionMode, withRegion_some hb, State.shiftOut_region,
      if_pos ⟨hsrc, hlive⟩, List.getD_cons_succ, List.getD_cons_zero, hm, enumOf_mode]
    rfl

/-! ### Events (R176 to R178) -/

theorem satInc_byte (c : Byte) : satInc c = if c.toNat = 255 then 255 else c + 1 := by
  have h : c = BitVec.allOnes 8 ↔ c.toNat = 255 := ⟨fun h => by rw [h]; rfl, fun h => BitVec.eq_of_toNat_eq h⟩
  unfold satInc
  by_cases hc : c.toNat = 255
  · rw [if_pos (h.2 hc), if_pos hc, h.2 hc]
    rfl
  · rw [if_neg (hc ∘ h.1), if_neg hc]

theorem counter_saturated_iff (c : BitVec 32) : c = BitVec.allOnes 32 ↔ c.toNat = 2 ^ 32 - 1 :=
  ⟨fun h => by rw [h, BitVec.toNat_allOnes], fun h => BitVec.eq_of_toNat_eq (by rw [h, BitVec.toNat_allOnes])⟩

theorem Mgp.ekInt_iff (m : Mgp) :
    m.ekInt = true ↔ ∃ k : Fin 16, m.events[k].pending = true ∧ m.enableMask[k] = true := by
  simp [Mgp.ekInt]

/-- The flags of two bytes, flag k at bit k of the number they spell (12.2). -/
theorem flagsOf_pair (a b : Byte) : flagsOf [a, b] = Vector.ofFn fun k => (a.toNat * 256 + b.toNat).testBit k := by
  have : field [a, b] 0 2 = a.toNat * 256 + b.toNat := by simp [field, beNat]
  simp only [flagsOf, this]

theorem Mgp.pendingFlags_eq (m : Mgp) : m.pendingFlags = Vector.ofFn fun k : Fin 16 => m.events[k].pending := by
  ext k hk
  simp [Mgp.pendingFlags]

/-- The 16 values of a vector in order. -/
theorem toList_map_eq_ofFn {α β : Type} (v : Vector α 16) (f : α → β) :
    (v.map f).toList = List.ofFn fun k : Fin 16 => f v[k] := by
  refine List.ext_getElem (by simp) fun i h1 h2 => ?_
  rw [Vector.getElem_toList, Vector.getElem_map, List.getElem_ofFn]
  rfl

theorem Mgp.eventReport_eq (m : Mgp) : m.eventReport =
    flags16 (Vector.ofFn fun k : Fin 16 => m.events[k].pending) ++
      (List.ofFn fun k : Fin 16 => m.events[k].count) ++ flags16 m.divergedMask ++ flags16 m.enableMask ++
      [if m.ekInt then 1 else 0] := by
  rw [Mgp.eventReport, Mgp.pendingFlags_eq, toList_map_eq_ofFn]
  cases m.ekInt <;> rfl

/-- What EVENT.ACK returns, kind by kind (R178). -/
theorem Mgp.ackReport_eq (m : Mgp) (named : Fin 16 → Bool) : m.ackReport (Vector.ofFn named) =
    flags16 (Vector.ofFn fun k => named k && m.events[k].pending) ++
      (List.ofFn fun k => if named k then m.events[k].count else 0) ++
      flags16 (if named 3 then m.divergedMask else Vector.replicate 16 false) := by
  have hslot : ∀ k : Fin 16, (m.acknowledged (Vector.ofFn named))[k] =
      if named k then m.events[k] else ⟨false, 0⟩ := by
    intro k
    simp [Mgp.acknowledged]
  have hpending : (m.acknowledged (Vector.ofFn named)).map EventSlot.pending =
      Vector.ofFn fun k => named k && m.events[k].pending := by
    ext k hk
    have := hslot ⟨k, hk⟩
    simp only [Fin.getElem_fin] at this
    simp only [Vector.getElem_map, Vector.getElem_ofFn, this, Fin.getElem_fin]
    cases named ⟨k, hk⟩ <;> rfl
  have hdiverged : (Vector.ofFn named)[EventKind.regionDiverged.ix] = named 3 := by
    simp [EventKind.ix]
  have hcounts : (fun k : Fin 16 => (m.acknowledged (Vector.ofFn named))[k].count) =
      fun k => if named k then m.events[k].count else 0 := by
    funext k
    rw [hslot]
    cases named k <;> rfl
  rw [Mgp.ackReport, hpending, toList_map_eq_ofFn, hdiverged, hcounts]

/-- Settles O51: raises and counts by the saturating increment, the queries by their payloads, and EVENT.ACK kind by
kind. -/
theorem eventsAreRaisedReadAcknowledgedAndEnabled : Obligations.EventsAreRaisedReadAcknowledgedAndEnabled := by
  refine ⟨fun m k => ?_, fun m x => rfl, fun m c => ?_, fun c => ?_, by decide, by decide, fun s => s.mgp.ekInt_iff,
    fun t s hr hf ht => ?_, fun t s a b hr hf ht => ⟨?_, ?_⟩⟩
  · simp only [Mgp.raise, satInc_byte]
  · simp only [Mgp.count, satInc, counter_saturated_iff]
  · rw [satInc_toNat]
    simp only [counter_saturated_iff]
  · refine Eq.trans (congrArg Host.Outcome.next
      (State.transaction_state (fun _ s => .answered s.mgp.eventReport s) hr hf ht rfl rfl)) ?_
    rw [← Mgp.eventReport_eq]
    rfl
  · refine ⟨_, congrArg Host.Outcome.next (State.transaction_state (fun p s =>
      .answered (s.mgp.ackReport (flagsOf p)) { s with mgp := s.mgp.acknowledge (flagsOf p) }) hr hf ht rfl rfl),
      fun k => ?_, ?_, ?_, ?_, ?_, ?_⟩
    all_goals simp only [flagsOf_pair]
    · simp [Verdict.state, State.answer, State.shiftOut, Mgp.acknowledge]
    · simp [Verdict.state, State.answer, State.shiftOut, Mgp.acknowledge, EventKind.ix]
    · simp [Verdict.state, State.answer, State.shiftOut, Mgp.acknowledge]
    · simp [Verdict.state, State.answer, State.shiftOut, Mgp.acknowledge]
    · exact congrArg (Response.mk .ok) (s.mgp.ackReport_eq _)
    · simp only [Verdict.state, State.answer, State.shiftOut]
  · refine Eq.trans (congrArg Host.Outcome.next (State.transaction_state (fun p s =>
      .answered [] { s with mgp := { s.mgp with enableMask := flagsOf p } }) hr hf ht rfl rfl)) ?_
    rw [← flagsOf_pair]
    rfl

end Sys2Proof.Machine

namespace Sys2Proof.Machine

/-! ### The responses of HLD (R64, R66) -/

/-- The responses formed after a change of every hold: `a` says which entries are then answered, `st` with what. -/
theorem State.formResponses_mapHolds {s : State} {f : Hold → Hold} {a : Hold → Bool} {st : Hold → BusStatus}
    (hv : ∀ k ∈ s.hld.holds, (f k).verdict = if a k then some (st k) else none) (hf : ∀ k, (f k).tag = k.tag) :
    (s.mapHolds f).formResponses = { s with
      hld := ⟨(s.hld.holds.filter fun k => !a k).map f⟩
      upi := { s.upi with responses := s.upi.responses ++
        (s.hld.holds.filter a).map fun k => ⟨k.tag, st k, []⟩ } } := by
  have hholds : (s.hld.holds.map f).filter (fun k => k.verdict.isNone) =
      (s.hld.holds.filter fun k => !a k).map f := by
    rw [List.filter_map]
    refine congrArg _ (List.filter_congr fun k hk => ?_)
    rw [Function.comp_apply, hv k hk]
    cases a k <;> rfl
  have hresponses : (s.hld.holds.map f).filterMap Hold.response =
      (s.hld.holds.filter a).map fun k => ⟨k.tag, st k, []⟩ := by
    rw [List.filterMap_map, ← List.filterMap_eq_map, List.filterMap_filter]
    refine List.filterMap_congr fun k hk => ?_
    rw [Function.comp_apply, Hold.response, hv k hk, hf]
    cases a k <;> rfl
  simp only [State.formResponses, State.mapHolds, hholds, hresponses]

/-- An entry waits without a local status, or OPEN with local status OKAY (R64). -/
theorem Hold.verdict_eq_none_iff (k : Hold) :
    k.verdict = none ↔ k.localStatus = none ∨ k.state = .openHold ∧ k.localStatus = some .okay := by
  rcases k with ⟨_, _, _, _, status, state, _⟩
  rcases status with _ | _ | _ <;> cases state <;> simp [Hold.verdict]

/-- A waiting hold that becomes REMOTE_MET is answered if its local status is known (R64, R66). -/
theorem Hold.verdict_remoteMet {k : Hold} (h : k.verdict = none) :
    { k with state := .remoteMet }.verdict = if k.localStatus = some .okay then some .okay else none := by
  rcases k.verdict_eq_none_iff.1 h with hl | ⟨_, hl⟩ <;> simp [Hold.verdict, hl]

/-- HLD's part in an apl_ack: the entries it meets are answered or become REMOTE_MET (R64, R66). -/
theorem State.holdsAplAck_eq {s : State} {p : Seq} (h : ∀ k ∈ s.hld.holds, k.verdict = none) :
    let met : Hold → Bool := Hold.metBy p s.jnl.nextSeq
    let answered : Hold → Bool := fun k => met k && decide (k.localStatus = some .okay)
    s.holdsAplAck p = { s with
      hld := ⟨(s.hld.holds.filter fun k => !answered k).map fun k =>
        if met k then { k with state := .remoteMet } else k⟩
      upi := { s.upi with responses := s.upi.responses ++
        (s.hld.holds.filter answered).map fun k => ⟨k.tag, .okay, []⟩ } } := by
  refine State.formResponses_mapHolds (fun k hk => ?_) fun k => ?_
  · cases hm : k.metBy p s.jnl.nextSeq
    · simpa using h k hk
    · simp only [↓reduceIte, Hold.verdict_remoteMet (h k hk), Bool.true_and, decide_eq_true_eq]
  · exact apply_ite Hold.tag _ _ _ |>.trans (ite_self _)

/-! ### The sweep, the journal and LNC at a header (R53, R54, R86, R118, R128, R129) -/

/-- The region whose sweep an apl_ack completes (R86). -/
def State.sweptBy (p : Seq) (s : State) : Option RegionIx :=
  match s.swp.engine with
  | .draining c => if c.completedBy p s.jnl.nextSeq then some c.region else none
  | _ => none

/-- The table once the sweep of a region completes (R10). -/
def State.sweptTable (s : State) : Option RegionIx → Rgt
  | some x => if (s.region x).state = .resyncing
      then ⟨s.rgt.entries.set x { s.region x with state := .active }⟩ else s.rgt
  | none => s.rgt

/-- SWP's part in an apl_ack (R10, R86). -/
theorem State.sweepAplAck_eq (p : Seq) (s : State) : s.sweepAplAck p = { s with
    swp := if (s.sweptBy p).isSome then { s.swp with engine := .idle } else s.swp
    rgt := s.sweptTable (s.sweptBy p)
    mgp := if (s.sweptBy p).isSome then s.mgp.raise .resyncDone else s.mgp } := by
  unfold State.sweepAplAck State.sweptBy
  cases s.swp.engine with
  | idle => rfl
  | reading c => rfl
  | draining c =>
    by_cases hc : c.completedBy p s.jnl.nextSeq = true
    · by_cases hr : (s.region c.region).state = .resyncing
      · simp only [hc, hr, ↓reduceIte, Option.isSome_some, State.sweptTable]
        rfl
      · simp only [hc, hr, ↓reduceIte, Option.isSome_some, State.sweptTable]
        rfl
    · simp only [hc]
      rfl

/-- The records an rcv_ack leaves: those from it on, reverted if the header carries a NAK; out of range, all. -/
def Header.recordsLeft (h : Header) (j : Jnl) : List Record :=
  if j.ackInRange h.rcvAck then
    (if h.nak then (freeBefore h.rcvAck j.records).map Record.revert else freeBefore h.rcvAck j.records)
  else j.records

/-- MGP once the NAK of a header is counted (R129). -/
def Header.counted (h : Header) (m : Mgp) : Mgp := if h.nak then m.count .nakReceived else m

/-- The node once JNL has taken the rcv_ack of a header, before what MGP then adds (R53, R54). -/
def State.acked (h : Header) (s : State) : State :=
  State.setRecords (h.recordsLeft s.jnl) { s with mgp := h.counted s.mgp }

/-- MGP once JNL has taken the rcv_ack: a go-back is counted, one out of range is a protocol error (R53, R54). -/
def State.ackedMgp (h : Header) (s : State) : Mgp :=
  if s.jnl.ackInRange h.rcvAck then (if h.nak then (s.acked h).mgp.count .goBacks else (s.acked h).mgp)
  else (h.counted s.mgp).raise .linkProtocol

/-- What JNL does with an rcv_ack depends on the journal and the events alone. -/
theorem State.acked_frame (h : Header) {s t : State} (hj : t.jnl = s.jnl) (hm : t.mgp = s.mgp) :
    t.acked h = { t with jnl := (s.acked h).jnl, mgp := (s.acked h).mgp } := by
  rw [State.acked, hj, hm]
  exact State.setRecords_frame _ { s with mgp := h.counted s.mgp } { t with jnl := s.jnl, mgp := h.counted s.mgp }
    rfl rfl

/-- An rcv_ack out of range leaves the journal (R53). -/
theorem State.acked_outOfRange {h : Header} {s : State} (hr : ¬s.jnl.ackInRange h.rcvAck = true) :
    s.acked h = { s with mgp := h.counted s.mgp } := by
  simp only [State.acked, Header.recordsLeft, hr, Bool.false_eq_true, ↓reduceIte]
  exact State.setRecords_same _ _ rfl rfl

/-- The next seq stays at a header (R53, R54). -/
theorem State.acked_nextSeq (h : Header) (s : State) : (s.acked h).jnl.nextSeq = s.jnl.nextSeq := by
  rw [State.acked, (State.setRecords_keeps _ _).1]

/-- JNL's part in a header (R53, R54, R128, R129). -/
theorem State.headerAck_eq (h : Header) (s : State) : s.headerAck h = { s with
    jnl := (s.acked h).jnl
    mgp := s.ackedMgp h
    frx := { s.frx with lastNak := if h.nak then h.reason else s.frx.lastNak } } := by
  by_cases hr : s.jnl.ackInRange h.rcvAck = true
  · cases hn : h.nak
    · simp only [State.headerAck, State.takeRcvAck, State.ackedMgp, State.acked, Header.recordsLeft, Header.counted,
        hn, hr, ↓reduceIte, Bool.false_eq_true]
      exact State.setRecords_frame _ s s rfl rfl
    · simp only [State.headerAck, State.takeNak, State.goBack, State.ackedMgp, State.acked, Header.recordsLeft,
        Header.counted, hn, hr, ↓reduceIte, State.count_jnl]
      exact congrArg (State.count .goBacks) (State.setRecords_frame _ { s with mgp := s.mgp.count .nakReceived }
        { s with mgp := s.mgp.count .nakReceived, frx := { s.frx with lastNak := h.reason } } rfl rfl)
  · rw [State.ackedMgp, State.acked_outOfRange hr]
    cases hn : h.nak <;>
      simp [State.headerAck, State.takeNak, State.takeRcvAck, Header.counted, State.raise, State.count, hn, hr]

/-- LNC's part in a header with the link UP (R118). -/
theorem State.headerTurn_eq {h : Header} {s : State} {u : Turn} (hup : s.lnc.link = .up u) :
    s.headerTurn h = s.setLink (.up (if h.turn then { u with missed := 0 } else u)) := by
  rw [State.headerTurn, hup]
  cases h.turn
  · show s = s.setLink (.up u)
    rw [← hup]
    rfl
  · rfl

/-- The node with a good header counted and taken by FRX (R119, R127). -/
def State.heard (h : Header) (s : State) : State :=
  { s with mgp := s.mgp.count .framesIn, frx := { s.frx with rx := some (.header h) } }

/-- A good DATA or CTRL header while UP (R127, R128). -/
theorem State.receiveHeader_acks {s : State} {u : Turn} {bytes : List Byte} (hrx : s.frx.rx = some .marked)
    (hlen : bytes.length = 20) (hgood : headerGood bytes = true) (hup : s.lnc.link = .up u)
    (htype : (headerOf bytes).type = some .data ∨ (headerOf bytes).type = some .ctrl) :
    s.receiveHeader bytes = some ((s.heard (headerOf bytes)).acksOfHeader (headerOf bytes)) := by
  rw [State.receiveHeader, if_pos ⟨hrx, hlen⟩, if_pos hgood]
  refine congrArg some ?_
  rcases htype with ht | ht
  · simp only [State.actOnHeader, State.count_lnc, hup, ht]
    rfl
  · simp only [State.actOnHeader, State.count_lnc, hup, ht]
    rfl

/-- All a good DATA or CTRL header does while UP (R127, R128). -/
theorem State.acksOfHeader_eq {h : Header} {s : State} {u : Turn} (hup : s.lnc.link = .up u)
    (hv : ∀ k ∈ s.hld.holds, k.verdict = none) :
    let met : Hold → Bool := Hold.metBy h.aplAck s.jnl.nextSeq
    let answered : Hold → Bool := fun k => met k && decide (k.localStatus = some .okay)
    s.acksOfHeader h = { s with
      jnl := (s.acked h).jnl
      hld := ⟨(s.hld.holds.filter fun k => !answered k).map fun k =>
        if met k then { k with state := .remoteMet } else k⟩
      upi := { s.upi with responses := s.upi.responses ++
        (s.hld.holds.filter answered).map fun k => ⟨k.tag, .okay, []⟩ }
      swp := if (s.sweptBy h.aplAck).isSome then { s.swp with engine := .idle } else s.swp
      rgt := s.sweptTable (s.sweptBy h.aplAck)
      mgp := if (s.sweptBy h.aplAck).isSome then (s.ackedMgp h).raise .resyncDone else s.ackedMgp h
      frx := { s.frx with lastNak := if h.nak then h.reason else s.frx.lastNak }
      lnc := { s.lnc with
        unconfirmed := false
        link := .up (if h.turn then { u with missed := 0 } else u) } } := by
  intro met answered
  have hacked : s.confirmSession.acked h = { s.confirmSession with jnl := (s.acked h).jnl, mgp := (s.acked h).mgp } :=
    State.acked_frame h rfl rfl
  have hmgp : s.confirmSession.ackedMgp h = s.ackedMgp h := by
    rw [State.ackedMgp, hacked]
    rfl
  have hack : s.confirmSession.headerAck h = { s.confirmSession with
      jnl := (s.acked h).jnl
      mgp := s.ackedMgp h
      frx := { s.frx with lastNak := if h.nak then h.reason else s.frx.lastNak } } := by
    rw [State.headerAck_eq, hmgp, hacked]
    rfl
  have hholds := State.holdsAplAck_eq (s := s.confirmSession.headerAck h) (p := h.aplAck) (by rw [hack]; exact hv)
  have hnext : (s.confirmSession.headerAck h).jnl.nextSeq = s.jnl.nextSeq := by
    rw [hack]
    exact s.acked_nextSeq h
  have hswept : ((s.confirmSession.headerAck h).holdsAplAck h.aplAck).sweptBy h.aplAck = s.sweptBy h.aplAck := by
    rw [State.sweptBy, State.holdsAplAck_jnl, hnext, State.holdsAplAck_swp, hack]
    rfl
  rw [State.acksOfHeader, State.headerTurn_eq (u := u), State.sweepAplAck_eq, hswept, hholds, hnext, hack]
  · rfl
  · rw [State.sweepAplAck_lnc, State.holdsAplAck_lnc, hack]
    exact hup

/-! ### Comparisons of sequence numbers (00_scope) -/

theorem precedes_iff (a b : Seq) : precedes a b = true ↔ 1 ≤ (b - a).toNat ∧ (b - a).toNat < 2 ^ 31 := by
  rw [precedes, decide_eq_true_iff]
  omega

theorem atOrBefore_iff (a b : Seq) : atOrBefore a b = true ↔ a = b ∨ precedes a b = true := by
  simp [atOrBefore]

theorem atOrAfter_iff (a b : Seq) : atOrAfter a b = true ↔ a = b ∨ precedes b a = true := by
  simp [atOrAfter]

theorem within_iff (a b c : Seq) : within a b c = true ↔ atOrAfter a b = true ∧ atOrBefore a c = true := by
  simp [within]

/-- Settles O33: the parts of JNL, HLD, SWP and LNC, one after the other. -/
theorem goodHeaderDeliversItsAcknowledgments : Obligations.GoodHeaderDeliversItsAcknowledgments := by
  refine ⟨fun a b => ⟨precedes_iff a b, atOrBefore_iff a b, atOrAfter_iff a b, within_iff a b⟩, fun _ _ => rfl, ?_⟩
  intro s u bytes hreset hup hrx hlen hgood hverdicts h htype inRange counted freed records acked mgp reached met
    answered swept
  have hexec : exec (.headerReceived bytes) s = .next (State.settle ((s.heard h).acksOfHeader h)) :=
    congrArg Host.Outcome.next (State.event_some _ _ _ hreset (State.receiveHeader_acks hrx hlen hgood hup htype))
  have hacked : (s.heard h).acked h = { s.heard h with jnl := acked.jnl, mgp := acked.mgp } :=
    State.acked_frame h (s := { s with mgp := s.mgp.count .framesIn }) rfl rfl
  have hmgp : (s.heard h).ackedMgp h = mgp := by
    rw [State.ackedMgp, hacked]
    rfl
  have hmet : Hold.metBy h.aplAck (s.heard h).jnl.nextSeq = met := funext fun k => Bool.and_assoc _ _ _
  have hswept : (s.heard h).sweptBy h.aplAck = swept := rfl
  refine hexec.trans (congrArg (fun t => Host.Outcome.next (State.settle t)) ?_)
  refine (State.acksOfHeader_eq (s := s.heard h) hup hverdicts).trans ?_
  rw [hacked, hmgp, hswept, hmet]
  rfl

end Sys2Proof.Machine

namespace Sys2Proof.Machine

/-! ### The order of the pass of R72 -/

theorem Hold.before_iff (a b : Hold) :
    a.before b = true ↔ a.deadline < b.deadline ∨ (a.deadline = b.deadline ∧ a.tag.val < b.tag.val) := by
  rw [Hold.before, decide_eq_true_iff]

theorem Hold.before_trans {a b c : Hold} (hab : a.before b = true) (hbc : b.before c = true) : a.before c = true := by
  rw [Hold.before_iff] at *
  omega

theorem Hold.not_before_self (a : Hold) : ¬a.before a = true := by
  rw [Hold.before_iff]
  omega

theorem Hold.not_before_of_before {a b : Hold} (h : a.before b = true) : ¬b.before a = true :=
  fun h' => a.not_before_self (Hold.before_trans h h')

/-- Entries with different tags stand in one order or the other. -/
theorem Hold.before_of_not_before {a b : Hold} (ht : a.tag ≠ b.tag) (h : ¬a.before b = true) : b.before a = true := by
  have : a.tag.val ≠ b.tag.val := fun hv => ht (Fin.ext hv)
  rw [Hold.before_iff] at *
  omega

theorem insertHold_perm (h : Hold) (l : List Hold) : (insertHold h l).Perm (h :: l) := by
  induction l with
  | nil => exact .refl _
  | cons k ks ih =>
    rw [insertHold]
    split
    · exact .refl _
    · exact (ih.cons k).trans (.swap h k ks)

/-- The pass goes through the entries it is given. -/
theorem sortHolds_perm (l : List Hold) : (sortHolds l).Perm l := by
  induction l with
  | nil => exact .refl _
  | cons k ks ih => exact (insertHold_perm k _).trans (ih.cons k)

theorem insertHold_pairwise {h : Hold} {l : List Hold} (hl : l.Pairwise fun a b => a.before b = true)
    (ht : ∀ k ∈ l, h.tag ≠ k.tag) : (insertHold h l).Pairwise fun a b => a.before b = true := by
  induction l with
  | nil => exact List.pairwise_singleton _ _
  | cons k ks ih =>
    obtain ⟨hk, hks⟩ := List.pairwise_cons.1 hl
    obtain ⟨htk, htks⟩ := List.forall_mem_cons.1 ht
    rw [insertHold]
    split
    next hb => exact List.pairwise_cons.2 ⟨List.forall_mem_cons.2 ⟨hb, fun a ha => Hold.before_trans hb (hk a ha)⟩, hl⟩
    next hb =>
      refine List.pairwise_cons.2 ⟨fun a ha => ?_, ih hks htks⟩
      rcases List.mem_cons.1 ((insertHold_perm h ks).mem_iff.1 ha) with rfl | ha
      · exact Hold.before_of_not_before htk hb
      · exact hk a ha

/-- The pass goes by deadline, then tag (R72). -/
theorem sortHolds_pairwise {l : List Hold} (h : (l.map Hold.tag).Nodup) :
    (sortHolds l).Pairwise fun a b => a.before b = true := by
  induction l with
  | nil => exact .nil
  | cons k ks ih =>
    obtain ⟨hk, hks⟩ := List.nodup_cons.1 h
    refine insertHold_pairwise (ih hks) fun a ha htag => hk ?_
    rw [htag]
    exact List.mem_map_of_mem ((sortHolds_perm ks).mem_iff.1 ha)

/-! ### What a pass that gives each entry a state comes to -/

/-- An entry with the state a pass gives it. -/
def Hold.turned (f : Hold → HoldState) (k : Hold) : Hold := { k with state := f k }

/-- A pass answers an OPEN entry it changes if the local status is known (R64). -/
def Hold.answeredBy (f : Hold → HoldState) (k : Hold) : Bool :=
  decide (k.state = .openHold) && decide (f k ≠ .openHold) && k.localStatus.isSome

/-- The response of an entry a pass answers: OKAY if waived, FAULT if failed (R64). -/
def Hold.responseBy (f : Hold → HoldState) (k : Hold) : UpResponse :=
  ⟨k.tag, if f k = .waived then .okay else .fault, []⟩

/-- `t` is `s` after a part of a pass that gave the entries the states `f`, made the regions `degraded` ASYNC and let
`expired` entries time out. -/
structure State.Passed (s : State) (f : Hold → HoldState) (degraded : RegionIx → Bool) (expired : Nat) (t : State) :
    Prop where
  waiting : ∀ k ∈ t.hld.holds, k.verdict = none
  holds : t.hld.holds = (s.hld.holds.filter fun k => !k.answeredBy f).map (Hold.turned f)
  responses : ∃ formed, t.upi = { s.upi with responses := s.upi.responses ++ formed } ∧
    formed.Perm ((s.hld.holds.filter (Hold.answeredBy f)).map (Hold.responseBy f))
  table : ∀ x, t.region x = { s.region x with
    fields := { (s.region x).fields with mode := if degraded x then .async else (s.region x).fields.mode } }
  mgp : t.mgp = Nat.repeat (fun m => (m.raise .syncTimeout).count .syncTimeouts) expired s.mgp

/-- The states a pass gives after the entries with `c` go over to `st`. -/
def passOn (f : Hold → HoldState) (c : Hold → Bool) (st : HoldState) (k : Hold) : HoldState :=
  if c (k.turned f) then st else f k

/-- The response of a waiting OPEN entry that fails or is waived (R64). -/
theorem Hold.verdict_of_resolved {k : Hold} {st : HoldState} (h : k.verdict = none)
    (hst : st = .failed ∨ st = .waived) : { k with state := st }.verdict =
      if k.localStatus.isSome then some (if st = .waived then .okay else .fault) else none := by
  rcases k.verdict_eq_none_iff.1 h with hl | ⟨_, hl⟩ <;> rcases hst with rfl | rfl <;> simp [Hold.verdict, hl]

/-- Entries that fail or are waived at once are answered if their local status is known (R64). -/
theorem State.formResponses_of_resolved {s : State} {c : Hold → Bool} {st : HoldState}
    (hv : ∀ k ∈ s.hld.holds, k.verdict = none) (hst : st = .failed ∨ st = .waived) :
    (s.mapHolds fun k => if c k then { k with state := st } else k).formResponses = { s with
      hld := ⟨(s.hld.holds.filter fun k => !(c k && k.localStatus.isSome)).map fun k =>
        if c k then { k with state := st } else k⟩
      upi := { s.upi with responses := s.upi.responses ++
        (s.hld.holds.filter fun k => c k && k.localStatus.isSome).map fun k =>
          ⟨k.tag, if st = .waived then .okay else .fault, []⟩ } } := by
  refine State.formResponses_mapHolds (fun k hk => ?_) fun k => (apply_ite Hold.tag _ _ _).trans (ite_self _)
  cases hck : c k
  · simpa [hck] using hv k hk
  · simpa [hck] using Hold.verdict_of_resolved (hv k hk) hst

/-- After a change of OPEN entries a pass has answered those it had, and those changed with a known local status. -/
theorem Hold.answeredBy_passOn {f : Hold → HoldState} {c : Hold → Bool} {st : HoldState} {k : Hold}
    (hf : f k = .openHold → k.state = .openHold) (hc : ∀ k, c k = true → k.state = .openHold) (hst : st ≠ .openHold) :
    k.answeredBy (passOn f c st) = (k.answeredBy f || (c (k.turned f) && k.localStatus.isSome)) := by
  cases hck : c (k.turned f)
  · simp [Hold.answeredBy, passOn, hck]
  · have ho : f k = .openHold := hc (k.turned f) hck
    simp [Hold.answeredBy, passOn, hck, ho, hf ho, hst]

/-- An entry a pass has answered is not changed again. -/
theorem Hold.unchanged_of_answeredBy {f : Hold → HoldState} {c : Hold → Bool} {k : Hold}
    (hc : ∀ k, c k = true → k.state = .openHold) (ha : k.answeredBy f = true) : c (k.turned f) = false := by
  by_contra hck
  have ho : f k = .openHold := hc (k.turned f) (by simpa using hck)
  simp [Hold.answeredBy, ho] at ha

/-- Two disjoint parts of a list, each mapped in its way, are together the part that holds both. -/
theorem filter_map_append_perm {α β : Type} {p q : α → Bool} {f g h : α → β} (hpq : ∀ a, p a = true → q a = false)
    (hf : ∀ a, p a = true → f a = h a) (hg : ∀ a, q a = true → g a = h a) (l : List α) :
    ((l.filter p).map f ++ (l.filter q).map g).Perm ((l.filter fun a => p a || q a).map h) := by
  induction l with
  | nil => exact .refl _
  | cons a l ih =>
    cases hp : p a
    · cases hq : q a
      · simpa [hp, hq] using ih
      · simpa [hp, hq, hg a hq] using List.perm_middle.trans (ih.cons (h a))
    · simpa [hp, hpq a hp, hf a hp] using ih.cons (h a)

namespace State.Passed
variable {s t : State} {f : Hold → HoldState} {d : RegionIx → Bool} {n : Nat}

/-- Nothing has passed yet. -/
theorem refl (hv : ∀ k ∈ s.hld.holds, k.verdict = none) : s.Passed Hold.state (fun _ => false) 0 s where
  waiting := hv
  holds := by
    have hnone : ∀ k : Hold, k.answeredBy Hold.state = false := fun k => by
      cases hs : k.state <;> simp [Hold.answeredBy, hs]
    have hid : Hold.turned Hold.state = id := rfl
    simp [hnone, hid]
  responses := by
    have hnone : ∀ k : Hold, k.answeredBy Hold.state = false := fun k => by
      cases hs : k.state <;> simp [Hold.answeredBy, hs]
    exact ⟨[], by simp, by simp [hnone]⟩
  table x := rfl
  mgp := rfl

/-- A pass is known by what it gives the entries of the table. -/
theorem congr {f' : Hold → HoldState} {d' : RegionIx → Bool} {n' : Nat} (h : s.Passed f d n t)
    (hf : ∀ k ∈ s.hld.holds, f k = f' k) (hd : ∀ x, d x = d' x) (hn : n = n') : s.Passed f' d' n' t := by
  subst hn
  obtain rfl : d = d' := funext hd
  have ha : ∀ k ∈ s.hld.holds, k.answeredBy f = k.answeredBy f' := fun k hk => by
    rw [Hold.answeredBy, Hold.answeredBy, hf k hk]
  obtain ⟨formed, hupi, hperm⟩ := h.responses
  refine ⟨h.waiting, h.holds.trans ?_, ⟨formed, hupi, hperm.trans (.of_eq ?_)⟩, h.table, h.mgp⟩
  · rw [List.filter_congr fun k hk => congrArg not (ha k hk)]
    refine List.map_congr_left fun k hk => ?_
    rw [Hold.turned, hf k (List.mem_filter.1 hk).1, Hold.turned]
  · rw [List.filter_congr ha]
    refine List.map_congr_left fun k hk => ?_
    rw [Hold.responseBy, hf k (List.mem_filter.1 hk).1, Hold.responseBy]

/-- One more entry times out (R67). -/
theorem counted (h : s.Passed f d n t) : s.Passed f d (n + 1) ((t.raise .syncTimeout).count .syncTimeouts) where
  waiting := h.waiting
  holds := h.holds
  responses := h.responses
  table := h.table
  mgp := congrArg (fun m => (m.raise .syncTimeout).count .syncTimeouts) h.mgp

/-- One more region becomes ASYNC (R69). -/
theorem degraded (h : s.Passed f d n t) (r : RegionIx) :
    s.Passed f (fun x => d x || decide (x = r)) n (t.setMode r .async) where
  waiting := h.waiting
  holds := h.holds
  responses := h.responses
  table x := by
    rw [State.setMode, State.region_setRegion]
    by_cases hx : x = r
    · subst hx
      simp [h.table x]
    · simp [hx, h.table x]
  mgp := h.mgp

/-- OPEN entries fail or are waived, and those with a local status are answered (R64, R68, R69). -/
theorem resolved {c : Hold → Bool} {st : HoldState} (h : s.Passed f d n t)
    (hf : ∀ k ∈ s.hld.holds, f k = .openHold → k.state = .openHold) (hc : ∀ k, c k = true → k.state = .openHold)
    (hst : st = .failed ∨ st = .waived) :
    s.Passed (passOn f c st) d n (t.mapHolds fun k => if c k then { k with state := st } else k).formResponses := by
  have hform := State.formResponses_of_resolved (c := c) h.waiting hst
  have hanswered : ∀ k ∈ s.hld.holds, k.answeredBy (passOn f c st) =
      (k.answeredBy f || (c (k.turned f) && k.localStatus.isSome)) := fun k hk =>
    Hold.answeredBy_passOn (hf k hk) hc (by rcases hst with rfl | rfl <;> decide)
  refine hform ▸ ⟨?_, ?_, ?_, h.table, h.mgp⟩
  · intro k hk
    rw [← hform] at hk
    exact Option.isNone_iff_eq_none.1 (List.mem_filter.1 hk).2
  · dsimp only
    rw [h.holds, List.filter_map, List.map_map, List.filter_filter]
    refine congrArg₂ List.map (funext fun k => ?_) (List.filter_congr fun k hk => ?_)
    · exact (apply_ite (fun st => { k with state := st }) (c (k.turned f) = true) st (f k)).symm
    · rw [hanswered k hk, Bool.not_or, Bool.and_comm]
      rfl
  · obtain ⟨formed, hupi, hperm⟩ := h.responses
    have hnow : t.hld.holds.filter (fun k => c k && k.localStatus.isSome) =
        (s.hld.holds.filter fun k => c (k.turned f) && k.localStatus.isSome).map (Hold.turned f) := by
      rw [h.holds, List.filter_map, List.filter_filter]
      refine congrArg _ (List.filter_congr fun k _ => ?_)
      cases ha : k.answeredBy f
      · exact Bool.and_true _
      · rw [Hold.unchanged_of_answeredBy hc ha]
        exact Bool.and_false _
    simp only [hupi, hnow, List.append_assoc, List.map_map]
    refine ⟨_, rfl, (hperm.append_right _).trans ?_⟩
    rw [List.filter_congr hanswered]
    refine filter_map_append_perm (fun k ha => ?_) (fun k ha => ?_) (fun k hk => ?_) _
    · rw [Hold.unchanged_of_answeredBy hc ha, Bool.false_and]
    · rw [Hold.responseBy, Hold.responseBy, passOn, Hold.unchanged_of_answeredBy hc ha]
      rfl
    · rw [Hold.responseBy, passOn, if_pos (Bool.and_eq_true_iff.1 hk).1]
      rfl

end State.Passed

end Sys2Proof.Machine

namespace Sys2Proof.Machine

/-! ### One expiry in the pass of R72 -/

/-- An expiry of this entry waives the OPEN entries of the region (R69). -/
def Hold.degrades (x : RegionIx) (k : Hold) : Bool :=
  decide (k.state = .openHold) && decide (k.action = .degrade) && decide (k.region = x)

/-- An expiry among these waives the entry: one of its region, with DEGRADE, not after it. -/
def waivedAmong (done : List Hold) (h : Hold) : Bool := done.any fun k => k.degrades h.region && !h.before k

/-- An entry that an earlier DEGRADE has waived is passed by (R72). -/
def passedBy (all : List Hold) (h : Hold) : Bool := all.any fun k => k.degrades h.region && k.before h

/-- What the entries have become once the pass is through with `done`. -/
def fateAmong (done : List Hold) (h : Hold) : HoldState :=
  if h.state = .openHold then
    if waivedAmong done h then .waived else if h ∈ done then .failed else .openHold
  else h.state

theorem Hold.degrades_iff {x : RegionIx} {k : Hold} :
    k.degrades x = true ↔ k.state = .openHold ∧ k.action = .degrade ∧ k.region = x := by
  simp [Hold.degrades, and_assoc]

theorem waivedAmong_concat (done : List Hold) (h k : Hold) :
    waivedAmong (done ++ [h]) k = (waivedAmong done k || (h.degrades k.region && !k.before h)) := by
  simp [waivedAmong]

theorem waivedAmong_iff {done : List Hold} {h : Hold} :
    waivedAmong done h = true ↔ ∃ k ∈ done, k.degrades h.region = true ∧ ¬h.before k = true := by
  simp [waivedAmong]

theorem passedBy_iff {all : List Hold} {h : Hold} :
    passedBy all h = true ↔ ∃ k ∈ all, k.degrades h.region = true ∧ k.before h = true := by
  simp [passedBy]

/-- The pass over the OPEN entries of a table stands at `h`: it is through with `done`, and `rest` is to come. -/
structure PassAt (all done : List Hold) (h : Hold) (rest : List Hold) : Prop where
  mem : ∀ k, k ∈ done ++ h :: rest ↔ k ∈ all ∧ k.state = .openHold
  sooner : ∀ k ∈ done, k.before h = true
  later : ∀ k ∈ rest, h.before k = true

namespace PassAt
variable {all done rest : List Hold} {h : Hold}

theorem current (p : PassAt all done h rest) : h ∈ all ∧ h.state = .openHold := (p.mem h).1 (by simp)

theorem not_mem_done (p : PassAt all done h rest) : h ∉ done := fun hd => h.not_before_self (p.sooner h hd)

/-- Of the OPEN entries, those through with are the ones before the current one. -/
theorem mem_done_iff (p : PassAt all done h rest) {k : Hold} (hk : k ∈ all) (ho : k.state = .openHold) :
    k ∈ done ↔ k.before h = true := by
  refine ⟨p.sooner k, fun hb => ?_⟩
  rcases List.mem_append.1 ((p.mem k).2 ⟨hk, ho⟩) with hd | hr
  · exact hd
  · rcases List.mem_cons.1 hr with rfl | hr
    · exact absurd hb k.not_before_self
    · exact absurd hb (Hold.not_before_of_before (p.later k hr))

/-- The current entry is waived already exactly when an earlier DEGRADE passes it by. -/
theorem waived_iff_passedBy (p : PassAt all done h rest) : waivedAmong done h = passedBy all h := by
  rw [Bool.eq_iff_iff, waivedAmong_iff, passedBy_iff]
  constructor
  · rintro ⟨k, hk, hdeg, -⟩
    exact ⟨k, ((p.mem k).1 (List.mem_append_left _ hk)).1, hdeg, p.sooner k hk⟩
  · rintro ⟨k, hk, hdeg, hb⟩
    exact ⟨k, (p.mem_done_iff hk (Hold.degrades_iff.1 hdeg).1).2 hb, hdeg, Hold.not_before_of_before hb⟩

/-- The fate of an entry is that of the entries through with, until the expiry of the current one. -/
theorem fate_current (p : PassAt all done h rest) :
    fateAmong done h = if waivedAmong done h then .waived else .openHold := by
  rw [fateAmong, if_pos p.current.2, if_neg p.not_mem_done]

/-- An entry that is passed by changes the fate of none (R72). -/
theorem fate_of_passedBy (p : PassAt all done h rest) (hw : waivedAmong done h = true) (k : Hold) :
    fateAmong done k = fateAmong (done ++ [h]) k := by
  obtain ⟨k₀, hk₀, hdeg₀, -⟩ := waivedAmong_iff.1 hw
  have hsame : waivedAmong (done ++ [h]) k = waivedAmong done k := by
    rw [waivedAmong_concat, Bool.or_eq_left_iff_imp, Bool.and_eq_true, Bool.not_eq_true', Hold.degrades_iff,
      ← Bool.not_eq_true]
    rintro ⟨⟨-, -, hregion⟩, hb⟩
    refine waivedAmong_iff.2 ⟨k₀, hk₀, hregion ▸ hdeg₀, fun hb₀ => hb (Hold.before_trans hb₀ (p.sooner k₀ hk₀))⟩
  by_cases hkh : k = h
  · subst hkh
    simp [fateAmong, hsame, hw]
  · simp [fateAmong, hsame, hkh]

/-- An entry that is passed by makes no other region ASYNC (R72). -/
theorem degrades_any_of_waived (hw : waivedAmong done h = true) (x : RegionIx) :
    (done ++ [h]).any (Hold.degrades x) = done.any (Hold.degrades x) := by
  obtain ⟨k₀, hk₀, hdeg₀, -⟩ := waivedAmong_iff.1 hw
  rw [List.any_append, List.any_cons, List.any_nil, Bool.or_false, Bool.or_eq_left_iff_imp]
  intro hdeg
  obtain ⟨-, -, rfl⟩ := Hold.degrades_iff.1 hdeg
  exact List.any_eq_true.2 ⟨k₀, hk₀, hdeg₀⟩

/-- FAIL: the current entry fails, and the others keep what they have become (R68). -/
theorem fate_of_fail (p : PassAt all done h rest) (ht : (all.map Hold.tag).Nodup) (hfail : h.action = .fail)
    (hw : waivedAmong done h = false) {k : Hold} (hk : k ∈ all) :
    passOn (fateAmong done) (fun k => decide (k.tag = h.tag ∧ k.state = .openHold)) .failed k =
      fateAmong (done ++ [h]) k := by
  have htag : k.tag = h.tag ↔ k = h :=
    ⟨fun he => List.inj_on_of_nodup_map ht hk p.current.1 he, congrArg Hold.tag⟩
  have hdeg : h.degrades k.region = false := by simp [Hold.degrades, hfail]
  by_cases hkh : k = h
  · subst hkh
    simp [passOn, Hold.turned, fateAmong, waivedAmong_concat, hdeg, hw, p.current.2]
  · simp [passOn, Hold.turned, fateAmong, waivedAmong_concat, hdeg, htag, hkh]

/-- DEGRADE: the OPEN entries of the region are waived, the current one among them (R69). -/
theorem fate_of_degrade (p : PassAt all done h rest) (hdegrade : h.action = .degrade)
    {k : Hold} (hk : k ∈ all) :
    passOn (fateAmong done) (fun k => decide (k.region = h.region ∧ k.state = .openHold)) .waived k =
      fateAmong (done ++ [h]) k := by
  have hdeg : h.degrades k.region = decide (k.region = h.region) := by
    simp [Hold.degrades, hdegrade, p.current.2, eq_comm]
  by_cases ho : k.state = .openHold
  · by_cases hwk : waivedAmong done k = true
    · simp [passOn, Hold.turned, fateAmong, waivedAmong_concat, ho, hwk]
    · by_cases hd : k ∈ done
      · simp [passOn, Hold.turned, fateAmong, waivedAmong_concat, ho, hwk, hd, p.sooner k hd]
      · have hb : ¬k.before h = true := fun hb => hd ((p.mem_done_iff hk ho).2 hb)
        by_cases hr : k.region = h.region
        · have hself : h.degrades h.region = true := Hold.degrades_iff.2 ⟨p.current.2, hdegrade, rfl⟩
          simp [passOn, Hold.turned, fateAmong, waivedAmong_concat, ho, hwk, hd, hself, hb, hr]
        · have hkh : k ≠ h := fun he => hr (congrArg Hold.region he)
          simp [passOn, Hold.turned, fateAmong, waivedAmong_concat, ho, hwk, hd, hdeg, hr, hkh]
  · simp [passOn, Hold.turned, fateAmong, ho]

end PassAt

namespace State.Passed
variable {s t : State} {f : Hold → HoldState} {d : RegionIx → Bool} {n : Nat} {h : Hold}

/-- The entry a pass has left under a tag is the one of the table, turned. -/
theorem of_holdOf {k : Hold} (hp : s.Passed f d n t) (ht : (s.hld.holds.map Hold.tag).Nodup) (hh : h ∈ s.hld.holds)
    (hk : t.holdOf h.tag = some k) : k = h.turned f := by
  have hmem := List.mem_of_find?_eq_some hk
  have htag : k.tag = h.tag := by simpa using List.find?_some hk
  rw [hp.holds] at hmem
  obtain ⟨k', hk', rfl⟩ := List.mem_map.1 hmem
  rw [List.inj_on_of_nodup_map ht (List.mem_filter.1 hk').1 hh htag]

/-- An entry the pass has not reached is in the table as it was. -/
theorem holdOf_untouched (hp : s.Passed f d n t) (ht : (s.hld.holds.map Hold.tag).Nodup) (hh : h ∈ s.hld.holds)
    (ho : h.state = .openHold) (hf : f h = .openHold) : t.holdOf h.tag = some h := by
  have hturned : h.turned f = h := by rw [Hold.turned, hf, ← ho]
  have hmem : h ∈ t.hld.holds := by
    rw [hp.holds]
    exact List.mem_map.2 ⟨h, List.mem_filter.2 ⟨hh, by simp [Hold.answeredBy, hf]⟩, hturned⟩
  have hfound : (t.holdOf h.tag).isSome = true := by
    rw [State.holdOf, List.find?_isSome]
    exact ⟨h, hmem, decide_eq_true rfl⟩
  obtain ⟨k, hk⟩ := Option.isSome_iff_exists.1 hfound
  exact hk.trans (congrArg some ((hp.of_holdOf ht hh hk).trans hturned))

/-- The expiry of an entry that is no longer OPEN is discarded (R67). -/
theorem expireHold_touched (hp : s.Passed f d n t) (ht : (s.hld.holds.map Hold.tag).Nodup) (hh : h ∈ s.hld.holds)
    (hf : f h ≠ .openHold) : t.expireHold h.tag = t := by
  rw [State.expireHold]
  cases hk : t.holdOf h.tag with
  | none => rfl
  | some k =>
    obtain rfl := hp.of_holdOf ht hh hk
    exact if_neg hf

/-- One expiry of the pass (R67 to R69, R72). -/
theorem expireHold {done rest : List Hold} (hp : s.Passed (fateAmong done) (fun x => done.any (Hold.degrades x))
      (done.countP fun k => !passedBy s.hld.holds k) t)
    (ht : (s.hld.holds.map Hold.tag).Nodup) (p : PassAt s.hld.holds done h rest) :
    s.Passed (fateAmong (done ++ [h])) (fun x => (done ++ [h]).any (Hold.degrades x))
      ((done ++ [h]).countP fun k => !passedBy s.hld.holds k) (t.expireHold h.tag) := by
  obtain ⟨hmem, ho⟩ := p.current
  have hfate : ∀ k ∈ s.hld.holds, fateAmong done k = .openHold → k.state = .openHold := fun k _ hk => by
    by_contra hne
    exact hne (by rwa [fateAmong, if_neg hne] at hk)
  cases hw : waivedAmong done h with
  | true =>
    have hpassed : passedBy s.hld.holds h = true := p.waived_iff_passedBy ▸ hw
    rw [hp.expireHold_touched ht hmem (by simp [p.fate_current, hw])]
    refine hp.congr (fun k _ => p.fate_of_passedBy hw k) (fun x => (PassAt.degrades_any_of_waived hw x).symm)
      (by simp [hpassed])
  | false =>
    have hpassed : passedBy s.hld.holds h = false := p.waived_iff_passedBy ▸ hw
    have hcount : (done ++ [h]).countP (fun k => !passedBy s.hld.holds k) =
        done.countP (fun k => !passedBy s.hld.holds k) + 1 := by simp [hpassed]
    have hlookup := hp.holdOf_untouched ht hmem ho (by simp [p.fate_current, hw])
    rw [State.expireHold, hlookup]
    simp only [ho, ↓reduceIte]
    cases ha : h.action with
    | fail =>
      have hstep := hp.counted.resolved (c := fun k => decide (k.tag = h.tag ∧ k.state = .openHold)) (st := .failed)
        hfate (fun k hk => (of_decide_eq_true hk).2) (.inl rfl)
      simp only [decide_eq_true_eq] at hstep
      refine hstep.congr (fun k hk => p.fate_of_fail ht ha hw hk) (fun x => ?_) hcount.symm
      simp [Hold.degrades, ha]
    | degrade =>
      have hstep := (hp.counted.degraded h.region).resolved
        (c := fun k => decide (k.region = h.region ∧ k.state = .openHold)) (st := .waived)
        hfate (fun k hk => (of_decide_eq_true hk).2) (.inr rfl)
      simp only [decide_eq_true_eq] at hstep
      refine hstep.congr (fun k hk => p.fate_of_degrade ha hk) (fun x => ?_) hcount.symm
      simp [Hold.degrades, ha, ho, eq_comm]

/-- The expiries of the rest of the pass (R72). -/
theorem expireHolds {rest : List Hold} : ∀ {done : List Hold} {t : State},
    (s.hld.holds.map Hold.tag).Nodup → (∀ k, k ∈ done ++ rest ↔ k ∈ s.hld.holds ∧ k.state = .openHold) →
    ((done ++ rest).Pairwise fun a b => a.before b = true) →
    s.Passed (fateAmong done) (fun x => done.any (Hold.degrades x))
      (done.countP fun k => !passedBy s.hld.holds k) t →
    s.Passed (fateAmong (done ++ rest)) (fun x => (done ++ rest).any (Hold.degrades x))
      ((done ++ rest).countP fun k => !passedBy s.hld.holds k) (rest.foldl (fun t k => t.expireHold k.tag) t) := by
  induction rest with
  | nil => simp
  | cons h rest ih =>
    intro done t ht hmem hord hp
    obtain ⟨-, hlater, hsooner⟩ := List.pairwise_append.1 hord
    have p : PassAt s.hld.holds done h rest := ⟨hmem, fun k hk => hsooner k hk h (List.mem_cons_self ..),
      (List.pairwise_cons.1 hlater).1⟩
    have hstep := hp.expireHold ht p
    rw [List.append_cons] at hmem hord ⊢
    exact ih ht hmem hord hstep

end State.Passed

/-- The state an entry comes to in the pass of a NEW decision (R72). -/
def fateNew (all : List Hold) (k : Hold) : HoldState :=
  if k.state = .openHold then if waivedAmong all k then .waived else .failed else k.state

/-- HLD's pass at a NEW decision: each OPEN entry is waived by a DEGRADE of its region not after it, or fails (R72). -/
theorem State.holdsNew_passed {s : State} (ht : (s.hld.holds.map Hold.tag).Nodup)
    (hv : ∀ k ∈ s.hld.holds, k.verdict = none) :
    s.Passed (fateNew s.hld.holds) (fun x => s.hld.holds.any (Hold.degrades x))
      (s.hld.holds.countP fun k => decide (k.state = .openHold) && !passedBy s.hld.holds k) s.holdsNew := by
  obtain ⟨pass, hpass⟩ : ∃ l, l = sortHolds (s.hld.holds.filter fun k => decide (k.state = .openHold)) := ⟨_, rfl⟩
  have hperm : pass.Perm (s.hld.holds.filter fun k => decide (k.state = .openHold)) := hpass ▸ sortHolds_perm _
  have hmem : ∀ k, k ∈ pass ↔ k ∈ s.hld.holds ∧ k.state = .openHold := fun k => by
    rw [hperm.mem_iff, List.mem_filter, decide_eq_true_iff]
  have hord : pass.Pairwise fun a b => a.before b = true :=
    hpass ▸ sortHolds_pairwise (ht.sublist (List.filter_sublist.map _))
  have hstart : s.Passed (fateAmong []) (fun x => [].any (Hold.degrades x))
      ([].countP fun k => !passedBy s.hld.holds k) s :=
    (State.Passed.refl hv).congr (fun k _ => by
      simp only [fateAmong, waivedAmong, List.any_nil, List.not_mem_nil, Bool.false_eq_true, ↓reduceIte]
      split <;> simp [*]) (fun _ => rfl) rfl
  have hany : ∀ p : Hold → Bool, (∀ k, p k = true → k.state = .openHold) → pass.any p = s.hld.holds.any p :=
    fun p hp => by
      rw [Bool.eq_iff_iff, List.any_eq_true, List.any_eq_true]
      exact exists_congr fun k => ⟨fun ⟨hk, hpk⟩ => ⟨((hmem k).1 hk).1, hpk⟩,
        fun ⟨hk, hpk⟩ => ⟨(hmem k).2 ⟨hk, hp k hpk⟩, hpk⟩⟩
  rw [State.holdsNew, ← hpass]
  refine (State.Passed.expireHolds (done := []) ht hmem hord hstart).congr (fun k hk => ?_)
    (fun x => hany _ fun k hdeg => (Hold.degrades_iff.1 hdeg).1) ?_
  · have hwaived : waivedAmong pass k = waivedAmong s.hld.holds k := hany _ fun a ha =>
      (Hold.degrades_iff.1 (Bool.and_eq_true_iff.1 ha).1).1
    by_cases ho : k.state = .openHold
    · simp [fateAmong, fateNew, hwaived, ho, (hmem k).2 ⟨hk, ho⟩]
    · simp [fateAmong, fateNew, ho]
  · rw [List.nil_append, hperm.countP_eq, List.countP_filter]
    simp only [Bool.and_comm]

end Sys2Proof.Machine

namespace Sys2Proof.Machine

/-! ### The region table at a NEW decision (R9, R13, R90) -/

/-- What divergence makes of an entry (R9). -/
def Region.diverged (e : Region) : Region := if e.capturing then { e with state := .diverged } else e

/-- An entry that step 2 takes to RESYNCING (R13). -/
def Region.resyncs (e : Region) : Bool :=
  decide (e.fields.direction = .source) && decide (e.state = .diverged) && e.fields.autoResync

/-- What step 2 makes of an entry (R13). -/
def Region.resynced (e : Region) : Region := if e.resyncs then { e with state := .resyncing } else e

theorem State.diverge_region (r x : RegionIx) (s : State) :
    (s.diverge r).region x = if x = r then (s.region x).diverged else s.region x := by
  cases hc : (s.region r).capturing
  · rw [s.diverge_idle r hc]
    split
    next h => rw [h, Region.diverged, hc]; rfl
    next => rfl
  · rw [s.diverge_live r hc]
    refine (State.region_setRegion r x _ s).trans ?_
    split
    next h => rw [h, Region.diverged, hc]; rfl
    next => rfl

theorem State.diverge_mgp (r : RegionIx) (s : State) :
    (s.diverge r).mgp = if (s.region r).capturing then s.mgp.raiseDiverged r else s.mgp := by
  cases hc : (s.region r).capturing
  · rw [s.diverge_idle r hc]; rfl
  · rw [s.diverge_live r hc]; rfl

theorem State.autoResync_eq (r : RegionIx) (s : State) :
    s.autoResync r = if (s.region r).resyncs then s.toResyncing r else s := by
  simp only [State.autoResync, Region.resyncs, Bool.and_eq_true, decide_eq_true_eq, and_assoc]

theorem State.autoResync_region (r x : RegionIx) (s : State) :
    (s.autoResync r).region x = if x = r then (s.region x).resynced else s.region x := by
  rw [State.autoResync_eq]
  cases hc : (s.region r).resyncs
  · rw [if_neg Bool.false_ne_true]
    split
    next h => rw [h, Region.resynced, hc]; rfl
    next => rfl
  · refine (State.region_setRegion r x _ s).trans ?_
    split
    next h => rw [h, Region.resynced, hc]; rfl
    next => rfl

theorem State.autoResync_swp (r : RegionIx) (s : State) : (s.autoResync r).swp =
    { s.swp with queue := s.swp.queue ++ if (s.region r).resyncs then [r] else [] } := by
  rw [State.autoResync_eq]
  cases hc : (s.region r).resyncs
  · simp
  · rfl

/-- A walk over the table that changes each entry where it stands. -/
theorem foldl_region {step : State → RegionIx → State} {f : Region → Region}
    (h : ∀ r x s, (step s r).region x = if x = r then f (s.region x) else s.region x) (l : List RegionIx)
    (hl : l.Nodup) (s : State) (x : RegionIx) :
    (l.foldl step s).region x = if x ∈ l then f (s.region x) else s.region x := by
  induction l generalizing s with
  | nil => rfl
  | cons r l ih =>
    obtain ⟨hr, hl⟩ := List.nodup_cons.1 hl
    rw [List.foldl_cons, ih hl, h]
    by_cases hx : x = r
    · subst hx
      simp [hr]
    · simp [hx]

theorem State.regionsNewStep1_region (s : State) (x : RegionIx) :
    s.regionsNewStep1.region x = (s.region x).diverged := by
  rw [State.regionsNewStep1, foldl_region (fun r x s => s.diverge_region r x) _ (List.nodup_finRange 16),
    if_pos (List.mem_finRange x)]

theorem State.regionsNewStep2_region (s : State) (x : RegionIx) :
    s.regionsNewStep2.region x = (s.region x).resynced := by
  rw [State.regionsNewStep2, foldl_region (fun r x s => s.autoResync_region r x) _ (List.nodup_finRange 16),
    if_pos (List.mem_finRange x)]

/-- The walk over part of the table raises REGION_DIVERGED for each entry that diverges. -/
theorem foldl_diverge_mgp (l : List RegionIx) (hl : l.Nodup) (s : State) :
    (l.foldl (fun t r => t.diverge r) s).mgp =
      (l.filter fun x => (s.region x).capturing).foldl (fun m x => m.raiseDiverged x) s.mgp := by
  induction l generalizing s with
  | nil => rfl
  | cons r l ih =>
    obtain ⟨hr, hl⟩ := List.nodup_cons.1 hl
    have hrest : l.filter (fun x => ((s.diverge r).region x).capturing) =
        l.filter fun x => (s.region x).capturing := by
      refine List.filter_congr fun x hx => ?_
      rw [State.diverge_region, if_neg fun he : x = r => hr (he ▸ hx)]
    rw [List.foldl_cons, ih hl, hrest, State.diverge_mgp, List.filter_cons]
    split <;> rfl

theorem State.regionsNewStep1_mgp (s : State) : s.regionsNewStep1.mgp =
    ((List.finRange 16).filter fun x => (s.region x).capturing).foldl (fun m x => m.raiseDiverged x) s.mgp :=
  foldl_diverge_mgp _ (List.nodup_finRange 16) s

/-- The walk over part of the table puts the entries that resync on the queue. -/
theorem foldl_autoResync_swp (l : List RegionIx) (hl : l.Nodup) (s : State) :
    (l.foldl (fun t r => t.autoResync r) s).swp =
      { s.swp with queue := s.swp.queue ++ l.filter fun x => (s.region x).resyncs } := by
  induction l generalizing s with
  | nil => simp
  | cons r l ih =>
    obtain ⟨hr, hl⟩ := List.nodup_cons.1 hl
    have hrest : l.filter (fun x => ((s.autoResync r).region x).resyncs) =
        l.filter fun x => (s.region x).resyncs := by
      refine List.filter_congr fun x hx => ?_
      rw [State.autoResync_region, if_neg fun he : x = r => hr (he ▸ hx)]
    rw [List.foldl_cons, ih hl, hrest, State.autoResync_swp, List.filter_cons]
    split <;> simp

theorem State.regionsNewStep2_swp (s : State) : s.regionsNewStep2.swp =
    { s.swp with queue := s.swp.queue ++ (List.finRange 16).filter fun x => (s.region x).resyncs } :=
  foldl_autoResync_swp _ (List.nodup_finRange 16) s

/-- The two steps together, at an entry whose mode the pass of HLD may have changed (R13, R69). -/
theorem Region.diverged_resynced (e : Region) : e.diverged.resynced = { e with
    state := if e.fields.direction = .source ∧ e.state ≠ .disabled
      then if e.fields.autoResync then .resyncing else .diverged
      else e.state } := by
  rcases e with ⟨fields, state, _, _, _⟩
  cases hd : fields.direction <;> cases ha : fields.autoResync <;> cases state <;>
    simp [Region.diverged, Region.resynced, Region.resyncs, Region.capturing, hd, ha]

theorem Region.diverged_resyncs (e : Region) : e.diverged.resyncs =
    (decide (e.fields.direction = .source) && decide (e.state ≠ .disabled) && e.fields.autoResync) := by
  rcases e with ⟨fields, state, _, _, _⟩
  cases hd : fields.direction <;> cases state <;>
    simp [Region.diverged, Region.resyncs, Region.capturing, hd]

end Sys2Proof.Machine

namespace Sys2Proof.Machine

/-! ### A NEW decision in every block (R162) -/

theorem State.blocksNew_upi (s : State) : s.blocksNew.upi = s.holdsNew.upi := by simp [State.blocksNew]

theorem State.blocksNew_hld (s : State) : s.blocksNew.hld = s.holdsNew.hld := by simp [State.blocksNew]

@[simp] theorem State.sweepNew_region (s : State) (x : RegionIx) : s.sweepNew.region x = s.region x := rfl

/-- The entries of the table diverge and then resync, from what the pass of HLD left (R13). -/
theorem State.blocksNew_region (s : State) (x : RegionIx) :
    s.blocksNew.region x = (s.holdsNew.region x).diverged.resynced := by
  have htable : s.blocksNew.region x = s.holdsNew.regionsNewStep1.sweepNew.regionsNewStep2.region x := by
    simp only [State.blocksNew, State.region, State.journalNew_rgt]
  rw [htable, State.regionsNewStep2_region, State.sweepNew_region, State.regionsNewStep1_region]

/-- The queue holds the entries that resync, and no sweep runs (R13, R90). -/
theorem State.blocksNew_swp (s : State) : s.blocksNew.swp =
    ⟨(List.finRange 16).filter fun x => (s.holdsNew.region x).diverged.resyncs, .idle⟩ := by
  have hswp : s.blocksNew.swp = s.holdsNew.regionsNewStep1.sweepNew.regionsNewStep2.swp := by
    simp only [State.blocksNew, State.journalNew_swp]
  simp only [hswp, State.regionsNewStep2_swp, State.sweepNew_region, State.regionsNewStep1_region]
  rfl

theorem State.blocksNew_mgp (s : State) : s.blocksNew.mgp =
    ((List.finRange 16).filter fun x => (s.holdsNew.region x).capturing).foldl (fun m x => m.raiseDiverged x)
      s.holdsNew.mgp := by
  have hmgp : s.blocksNew.mgp = s.holdsNew.regionsNewStep1.mgp := by simp [State.blocksNew]
  rw [hmgp, State.regionsNewStep1_mgp]

theorem State.blocksNew_jnl (s : State) :
    s.blocksNew.jnl = { s.jnl with records := [], nextSeq := 0, latch := false } := by
  simp [State.blocksNew, State.journalNew]

theorem State.blocksNew_frx (s : State) : s.blocksNew.frx = { s.frx with expected := 0 } := by
  simp [State.blocksNew]

theorem State.blocksNew_apl (s : State) : s.blocksNew.apl = s.apl.newSession := by
  simp [State.blocksNew]

theorem State.blocksNew_dnp (s : State) :
    s.blocksNew.dnp = { s.dnp with outstanding := s.dnp.outstanding.map OutEntry.newSession } := by
  simp [State.blocksNew]

/-- What a NEW decision leaves (R162). -/
theorem State.blocksNew_rest (s : State) : s.blocksNew.lnc = s.lnc ∧ s.blocksNew.ftx = s.ftx ∧
    s.blocksNew.now = s.now ∧ s.blocksNew.inReset = s.inReset ∧ s.blocksNew.pending = s.pending := by
  simp [State.blocksNew]

/-- The state a NEW decision applies every block's part to (R162). -/
def State.sessionNew (s : State) : State :=
  { s with mgp := (s.mgp.count .sessionsNew).raise .sessionNew, lnc := { s.lnc with fresh := false } }

theorem State.applySession_newSession (s : State) (e : Seq) :
    s.applySession .newSession e = s.sessionNew.blocksNew := rfl

theorem Region.capturing_eq (e : Region) : e.capturing =
    (decide (e.fields.direction = .source) && (decide (e.state = .active) || decide (e.state = .resyncing))) := by
  simp [Region.capturing]

/-- The pass of a NEW decision answers the OPEN entries that have a local status. -/
theorem Hold.answeredBy_fateNew (all : List Hold) :
    Hold.answeredBy (fateNew all) = fun k => decide (k.state = .openHold) && k.localStatus.isSome := by
  funext k
  by_cases ho : k.state = .openHold
  · cases hw : waivedAmong all k <;> simp [Hold.answeredBy, fateNew, ho, hw]
  · simp [Hold.answeredBy, ho]

theorem Hold.responseBy_fateNew {all : List Hold} {k : Hold} (ho : k.state = .openHold) :
    k.responseBy (fateNew all) = ⟨k.tag, if waivedAmong all k then .okay else .fault, []⟩ := by
  cases hw : waivedAmong all k <;> simp [Hold.responseBy, fateNew, ho, hw]

theorem Hold.turned_fateNew (all : List Hold) (k : Hold) : k.turned (fateNew all) =
    if k.state = .openHold then { k with state := if waivedAmong all k then .waived else .failed } else k := by
  by_cases ho : k.state = .openHold
  · simp [Hold.turned, fateNew, ho]
  · simp [Hold.turned, fateNew, ho]

/-- A record a RESUME keeps: PENDING if it was SENT, and send count 0 (R57). -/
theorem Record.resumed_eq (r : Record) :
    r.resumed = { r with sendCount := 0, state := if r.state = .sent then .pending else r.state } := by
  by_cases h : r.state = .sent <;> simp [Record.resumed, Record.revert, h]

/-- Settles O40: the pass of HLD, the steps over the table, and the records of a RESUME. -/
theorem sessionAppliedInEveryBlock : Obligations.SessionAppliedInEveryBlock := by
  refine ⟨fun s e ht hv => ?_, fun s e => ?_⟩
  · rw [State.applySession_newSession]
    obtain ⟨-, hholds, ⟨formed, hupi, hperm⟩, htable, hmgp⟩ := State.holdsNew_passed (s := s.sessionNew) ht hv
    rw [Hold.answeredBy_fateNew] at hholds hperm
    obtain ⟨hlnc, hftx, hnow, hreset, hpending⟩ := s.sessionNew.blocksNew_rest
    refine ⟨⟨formed, s.sessionNew.blocksNew_upi.trans hupi, hperm.trans (.of_eq ?_)⟩, ?_, fun x => ?_, ?_, ?_,
      s.sessionNew.blocksNew_jnl, s.sessionNew.blocksNew_frx, s.sessionNew.blocksNew_apl, s.sessionNew.blocksNew_dnp,
      hlnc, hftx, hnow, hreset, hpending⟩
    · refine List.map_congr_left fun k hk => ?_
      have ho : k.state = .openHold := of_decide_eq_true (Bool.and_eq_true_iff.1 (List.mem_filter.1 hk).2).1
      exact Hold.responseBy_fateNew ho
    · rw [State.blocksNew_hld, hholds]
      exact List.map_congr_left fun k _ => Hold.turned_fateNew _ k
    · refine (s.sessionNew.blocksNew_region x).trans ?_
      rw [Region.diverged_resynced, htable]
      rfl
    · refine s.sessionNew.blocksNew_swp.trans ?_
      simp only [Region.diverged_resyncs, htable]
      rfl
    · refine s.sessionNew.blocksNew_mgp.trans ?_
      simp only [Region.capturing_eq, htable, hmgp]
      rfl
  · exact congrArg (fun f => State.evalMarks { s with
      lnc := { s.lnc with fresh := false }
      mgp := s.mgp.count .sessionsResumed
      jnl := { s.jnl with records := (freeBefore e s.jnl.records).map f } }) (funext Record.resumed_eq)
end Sys2Proof.Machine

namespace Sys2Proof.Machine

/-! ### The laws of the memory path as facts (R19, R24, R32, R62, R65) -/

/-- The outstanding transactions a requester may have (R24). -/
def Requester.limit : Requester → Nat
  | .up => Config.upLimit
  | .apl => Config.aplLimit
  | .swp => Config.swpLimit

theorem Dnp.outstandingLaw_iff (d : Dnp) :
    d.outstandingLaw = true ↔ (d.outstanding.map OutEntry.itag).Nodup ∧ ∀ q, d.charged q ≤ q.limit := by
  simp only [Dnp.outstandingLaw, Bool.and_eq_true, decide_eq_true_eq, and_assoc]
  refine and_congr_right fun _ => ⟨fun ⟨hup, hapl, hswp⟩ q => ?_, fun h => ⟨h .up, h .apl, h .swp⟩⟩
  cases q <;> assumption

/-- Laws 8 and 9: every tag in flight is in one place, and the holds without a local status are those whose entry is
outstanding. -/
structure State.TagsSound (s : State) : Prop where
  nodup : s.upi.inFlight.Nodup
  places : s.upi.inFlight.Perm s.tagPlaces
  held : (s.dnp.outstanding.filterMap OutEntry.heldTag).Perm
    ((s.hld.holds.filter fun h => decide (h.localStatus = none)).map Hold.tag)
  room : s.upi.intake.length ≤ Config.intakeDepth

theorem State.tagLaw_iff (s : State) : s.tagLaw = true ↔ s.TagsSound := by
  simp only [State.tagLaw, Bool.and_eq_true, decide_eq_true_eq]
  exact ⟨fun ⟨⟨⟨hn, hp⟩, hh⟩, hr⟩ => ⟨hn, hp, hh, hr⟩, fun ⟨hn, hp, hh, hr⟩ => ⟨⟨⟨hn, hp⟩, hh⟩, hr⟩⟩

theorem Hld.waitingLaw_iff (h : Hld) : h.waitingLaw = true ↔ ∀ k ∈ h.holds, k.verdict = none := by
  simp [Hld.waitingLaw]

/-- The tags in flight are as often in one place or another as they are in flight. -/
theorem State.places_iff (s : State) : s.upi.inFlight.Perm s.tagPlaces ↔ ∀ g : Tag,
    s.upi.inFlight.count g = (s.upi.intake.map UpRequest.tag).count g +
      (s.dnp.outstanding.filterMap OutEntry.ownTag).count g + (s.hld.holds.map Hold.tag).count g +
      (s.upi.responses.map UpResponse.tag).count g := by
  simp only [List.perm_iff_count, State.tagPlaces, List.count_append]

/-- No two holds share a tag (law 9). -/
theorem State.TagsSound.holds_nodup {s : State} (h : s.TagsSound) : (s.hld.holds.map Hold.tag).Nodup := by
  have hplaces := h.places.nodup_iff.1 h.nodup
  unfold State.tagPlaces at hplaces
  exact (List.nodup_append.1 (List.nodup_append.1 hplaces).1).2.1

/-! ### What an operation keeps of them -/

/-- What `t` is to `s` when an operation has led there that keeps the laws of the memory path. -/
structure State.PathKeeps (s t : State) : Prop where
  waiting : s.hld.waitingLaw = true → t.hld.waitingLaw = true
  port : s.dnp.outstandingLaw = true → t.dnp.outstandingLaw = true
  tags : s.dnp.outstandingLaw = true → s.TagsSound → t.TagsSound

theorem State.PathKeeps.trans {s t u : State} (h : s.PathKeeps t) (k : t.PathKeeps u) : s.PathKeeps u :=
  ⟨fun hw => k.waiting (h.waiting hw), fun hd => k.port (h.port hd), fun hd hs => k.tags (h.port hd) (h.tags hd hs)⟩

/-- The port's law reads the outstanding entries alone (R24). -/
theorem Dnp.outstandingLaw_congr {c d : Dnp} (h : d.outstanding = c.outstanding) :
    d.outstandingLaw = c.outstandingLaw := by
  rw [Bool.eq_iff_iff, Dnp.outstandingLaw_iff, Dnp.outstandingLaw_iff]
  simp only [Dnp.charged, h]

/-- Of an operation that leaves alone what the laws read. -/
theorem State.PathKeeps.of_parts {s t : State}
    (h : t.upi.intake = s.upi.intake ∧ t.upi.inFlight = s.upi.inFlight ∧ t.upi.responses = s.upi.responses ∧
      t.dnp.outstanding = s.dnp.outstanding ∧ t.hld = s.hld) : s.PathKeeps t := by
  obtain ⟨hin, hfl, hres, hd, hh⟩ := h
  refine ⟨by rw [hh]; exact id, by rw [Dnp.outstandingLaw_congr hd]; exact id, fun _ hs => ⟨?_, ?_, ?_, ?_⟩⟩
  · rw [hfl]; exact hs.nodup
  · simpa only [State.tagPlaces, hfl, hin, hres, hd, hh] using hs.places
  · rw [hd, hh]; exact hs.held
  · rw [hin]; exact hs.room

theorem State.PathKeeps.refl (s : State) : s.PathKeeps s := .of_parts ⟨rfl, rfl, rfl, rfl, rfl⟩

/-! ### HLD (R64 to R69, R72) -/

/-- A response is formed for each hold whose response is fixed, with its tag (R64). -/
theorem filterMap_response_tags (l : List Hold) : (l.filterMap Hold.response).map UpResponse.tag =
    (l.filter fun k => k.verdict.isSome).map Hold.tag := by
  rw [List.map_filterMap, ← List.filterMap_eq_map, List.filterMap_filter]
  refine List.filterMap_congr fun k _ => ?_
  cases hv : k.verdict <;> simp [Hold.response, hv]

/-- A hold that leaves the table has a local status (R64). -/
theorem filter_waiting_unanswered (l : List Hold) :
    (l.filter fun k => k.verdict.isNone).filter (fun k => decide (k.localStatus = none)) =
      l.filter fun k => decide (k.localStatus = none) := by
  rw [List.filter_filter]
  refine List.filter_congr fun k _ => ?_
  by_cases hl : k.localStatus = none
  · simp [hl, k.verdict_eq_none_iff.2 (.inl hl)]
  · simp [hl]

/-- Formed responses take their tags from the hold table to the ready responses (R64). -/
theorem State.TagsSound.formResponses {s : State} (h : s.TagsSound) : s.formResponses.TagsSound := by
  refine ⟨h.nodup, s.formResponses.places_iff.2 fun g => ?_, ?_, h.room⟩
  · have hs := s.places_iff.1 h.places g
    have hsplit := ((List.filter_append_perm (fun k : Hold => k.verdict.isNone) s.hld.holds).map Hold.tag).count_eq g
    simp only [List.map_append, List.count_append, Option.not_isNone] at hsplit
    simp only [State.formResponses, List.map_append, List.count_append, filterMap_response_tags]
    omega
  · simp only [State.formResponses, filter_waiting_unanswered]
    exact h.held

/-- A change of the holds that keeps their tags and local status. -/
theorem State.TagsSound.mapHolds {s : State} {f : Hold → Hold} (h : s.TagsSound) (htag : ∀ k, (f k).tag = k.tag)
    (hlocal : ∀ k, (f k).localStatus = k.localStatus) : (s.mapHolds f).TagsSound := by
  have htags : ∀ l : List Hold, (l.map f).map Hold.tag = l.map Hold.tag := fun l => by
    rw [List.map_map]; exact List.map_congr_left fun k _ => htag k
  refine ⟨h.nodup, ?_, ?_, h.room⟩
  · have hp := h.places
    simpa only [State.tagPlaces, State.mapHolds, htags] using hp
  · simp only [State.mapHolds, List.filter_map, htags, Function.comp_def, hlocal]
    exact h.held

/-- Responses formed after a change that keeps each hold's tag and local status. -/
theorem State.mapHolds_pathKeeps (s : State) {f : Hold → Hold} (htag : ∀ k, (f k).tag = k.tag)
    (hlocal : ∀ k, (f k).localStatus = k.localStatus) : s.PathKeeps (s.mapHolds f).formResponses :=
  ⟨fun _ => (Hld.waitingLaw_iff _).2 (State.formResponses_verdict _), id,
    fun _ h => (h.mapHolds htag hlocal).formResponses⟩

theorem State.holdsAplAck_pathKeeps (p : Seq) (s : State) : s.PathKeeps (s.holdsAplAck p) :=
  s.mapHolds_pathKeeps (fun k => by split <;> rfl) (fun k => by split <;> rfl)

theorem State.expireHold_pathKeeps (tag : Tag) (s : State) : s.PathKeeps (s.expireHold tag) := by
  have hcounted : s.PathKeeps ((s.raise .syncTimeout).count .syncTimeouts) := .of_parts (by simp)
  unfold State.expireHold
  split
  · exact .refl s
  · next h _ =>
    split
    · dsimp only
      split
      · exact hcounted.trans (State.mapHolds_pathKeeps _ (fun k => by split <;> rfl) (fun k => by split <;> rfl))
      · have hmode : s.PathKeeps (((s.raise .syncTimeout).count .syncTimeouts).setMode h.region .async) :=
          .of_parts (by simp)
        exact hmode.trans (State.mapHolds_pathKeeps _ (fun k => by split <;> rfl) (fun k => by split <;> rfl))
    · exact .refl s

theorem State.holdsNew_pathKeeps (s : State) : s.PathKeeps s.holdsNew := by
  unfold State.holdsNew
  generalize sortHolds (s.hld.holds.filter fun h => decide (h.state = .openHold)) = pass
  induction pass generalizing s with
  | nil => exact .refl s
  | cons k pass ih => exact (s.expireHold_pathKeeps k.tag).trans (ih _)

/-! ### Entries of the port (R24, R34, R36) -/

/-- A change of the entries that keeps their internal tags and owners keeps the port's law (R24). -/
theorem Dnp.outstandingLaw_map {d : Dnp} {f : OutEntry → OutEntry} (hitag : ∀ e, (f e).itag = e.itag)
    (howner : ∀ e, (f e).owner = e.owner) :
    Dnp.outstandingLaw { d with outstanding := d.outstanding.map f } = d.outstandingLaw := by
  rw [Bool.eq_iff_iff, Dnp.outstandingLaw_iff, Dnp.outstandingLaw_iff]
  simp only [Dnp.charged, List.map_map, List.countP_map, Function.comp_def, hitag, howner]

/-- A requester that is granted the port has fewer transactions than its limit (R21, R25, R82, R145). -/
theorem State.charged_of_ready {s : State} {q : Requester} (h : s.ready q = true) : s.dnp.charged q < q.limit := by
  cases q with
  | up =>
    simp only [State.ready, State.upReady] at h
    split at h
    · cases h
    · simp only [Bool.and_eq_true, decide_eq_true_eq] at h
      exact h.1.2
  | apl =>
    simp only [State.ready, State.aplReady] at h
    split at h
    · exact of_decide_eq_true h
    · cases h
  | swp =>
    simp only [State.ready, State.swpReady] at h
    split at h
    · simp only [Bool.and_eq_true, decide_eq_true_eq] at h
      exact h.1.2
    · cases h

/-- An entry with a free internal tag, of a requester within its limit (R24). -/
theorem Dnp.outstandingLaw_issue {d : Dnp} (h : d.outstandingLaw = true) {e : OutEntry}
    (hfree : d.tagFree e.itag = true) (hlimit : d.charged e.owner.requester < e.owner.requester.limit)
    (rotation : Requester) (issued : Option DownRequest) :
    Dnp.outstandingLaw ⟨d.outstanding ++ [e], rotation, issued⟩ = true := by
  rw [Dnp.outstandingLaw_iff] at h ⊢
  obtain ⟨hnodup, hcharged⟩ := h
  refine ⟨?_, fun q => ?_⟩
  · simp only [List.map_append, List.map_cons, List.map_nil]
    refine hnodup.append (List.nodup_singleton _) ?_
    simpa using (d.tagFree_iff e.itag).1 hfree
  · have hq := hcharged q
    simp only [Dnp.charged, List.countP_append, List.countP_singleton, decide_eq_true_eq] at hq hlimit ⊢
    split
    · next heq => subst heq; omega
    · exact hq

/-- Taking an entry away keeps the port's law (R24, R28). -/
theorem Dnp.outstandingLaw_filter {d : Dnp} (h : d.outstandingLaw = true) (p : OutEntry → Bool) :
    Dnp.outstandingLaw { d with outstanding := d.outstanding.filter p } = true := by
  rw [Dnp.outstandingLaw_iff] at h ⊢
  obtain ⟨hnodup, hcharged⟩ := h
  exact ⟨hnodup.sublist (List.filter_sublist.map _),
    fun q => (List.filter_sublist.countP_le ..).trans (hcharged q)⟩

end Sys2Proof.Machine

namespace Sys2Proof.Machine

/-! ### Intake (R19, R20, R32) -/

theorem Upi.accepts_iff (u : Upi) (r : UpRequest) :
    u.accepts r = true ↔ u.intake.length < 8 ∧ r.tag ∉ u.inFlight ∧ u.hostReset = false := by
  simp [Upi.accepts, and_assoc]

/-- An accepted request is in one place, the intake queue (R19, R20). -/
theorem State.TagsSound.accept {s : State} {r : UpRequest} (h : s.TagsSound) (ha : s.upi.accepts r = true) :
    State.TagsSound { s with upi := s.upi.accept r } := by
  obtain ⟨hroom, hfresh, -⟩ := (s.upi.accepts_iff r).1 ha
  refine ⟨?_, (State.places_iff _).2 fun g => ?_, h.held, ?_⟩
  · exact h.nodup.append (List.nodup_singleton _) (by simpa using hfresh)
  · have hs := s.places_iff.1 h.places g
    simp only [Upi.accept, List.map_append, List.map_cons, List.map_nil, List.count_append]
    omega
  · simp only [Upi.accept, List.length_append, List.length_singleton]
    exact hroom

theorem State.TagsSound.acceptFrom (l : List UpRequest) {s : State} (h : s.TagsSound) :
    State.TagsSound { s with upi := s.upi.acceptFrom l } := by
  induction l generalizing s with
  | nil => exact ⟨h.nodup, h.places, h.held, h.room⟩
  | cons r l ih =>
    unfold Upi.acceptFrom
    split
    · next ha => exact ih (h.accept ha)
    · exact ⟨h.nodup, h.places, h.held, h.room⟩

theorem State.acceptPresented_pathKeeps (s : State) : s.PathKeeps s.acceptPresented :=
  ⟨id, id, fun _ h => h.acceptFrom s.upi.presented⟩

/-- An answered head is in one place as before, at its ready response (R16, R20). -/
theorem State.PathKeeps.of_answered {s t : State} {r : UpRequest} {rest : List UpRequest} {p : UpResponse}
    (hin : s.upi.intake = r :: rest) (hp : p.tag = r.tag)
    (h : t.upi.intake = rest ∧ t.upi.inFlight = s.upi.inFlight ∧ t.upi.responses = s.upi.responses ++ [p] ∧
      t.dnp.outstanding = s.dnp.outstanding ∧ t.hld = s.hld) : s.PathKeeps t := by
  obtain ⟨hrest, hfl, hres, hd, hh⟩ := h
  refine ⟨by rw [hh]; exact id, by rw [Dnp.outstandingLaw_congr hd]; exact id, fun _ hs => ⟨?_, ?_, ?_, ?_⟩⟩
  · rw [hfl]; exact hs.nodup
  · refine t.places_iff.2 fun g => ?_
    have hg := s.places_iff.1 hs.places g
    rw [hin, List.map_cons, List.count_cons] at hg
    rw [hfl, hrest, hres, hd, hh, List.map_append, List.count_append, List.map_singleton, List.count_singleton, hp]
    omega
  · rw [hd, hh]; exact hs.held
  · have := hs.room
    rw [hin, List.length_cons] at this
    rw [hrest]
    omega

theorem State.answerMalformed_pathKeeps (s t : State) (h : s.answerMalformed = some t) : s.PathKeeps t := by
  unfold State.answerMalformed at h
  split at h
  · cases h
  · next r rest hin =>
    split at h <;> cases h
    exact .of_answered (p := ⟨r.tag, .fault, faultData r.body⟩) hin rfl
      ⟨by simp [State.popHead, State.respond, hin], rfl, rfl, rfl, rfl⟩

/-- A response that leaves takes its tag out of the one place it was in (R32). -/
theorem State.sendResponse_pathKeeps (tag : Tag) (s t : State) (h : s.sendResponse tag = some t) :
    s.PathKeeps t := by
  unfold State.sendResponse at h
  split at h <;> cases h
  next p hfind =>
  refine ⟨id, id, fun _ hs => ⟨hs.nodup.filter _, (State.places_iff _).2 fun g => ?_, hs.held, hs.room⟩⟩
  have hg := s.places_iff.1 hs.places g
  have hmap : (s.upi.responses.filter fun q => decide (q.tag ≠ tag)).map UpResponse.tag =
      (s.upi.responses.map UpResponse.tag).filter fun a => decide (a ≠ tag) := by
    rw [List.filter_map]; rfl
  dsimp only
  rw [hmap]
  by_cases heq : g = tag
  · subst heq
    have hready : 0 < (s.upi.responses.map UpResponse.tag).count g := by
      rw [List.count_pos_iff, List.mem_map]
      exact ⟨p, List.mem_of_find?_eq_some hfind, by simpa using List.find?_some hfind⟩
    have honce := List.nodup_iff_count_le_one.1 hs.nodup g
    have hgone : ∀ l : List Tag, (l.filter fun a => decide (a ≠ g)).count g = 0 := fun l =>
      List.count_eq_zero.2 (by simp)
    rw [hgone, hgone]
    omega
  · have hkept : ∀ l : List Tag, (l.filter fun a => decide (a ≠ tag)).count g = l.count g := fun l =>
      List.count_filter (by simpa using heq)
    rw [hkept, hkept]
    exact hg

/-! ### The grant to UP (R15, R16, R26, R63) -/

theorem State.captureWrite_upi (x : RegionIx) (r : UpRequest) (bytes : List (Byte × Bool)) (s : State) :
    (s.captureWrite x r bytes).upi = s.upi := by
  unfold State.captureWrite; dsimp only; split <;> simp

theorem State.captureWrite_dnp (x : RegionIx) (r : UpRequest) (bytes : List (Byte × Bool)) (s : State) :
    (s.captureWrite x r bytes).dnp = s.dnp := by
  unfold State.captureWrite; dsimp only; split <;> simp

/-- What a class does first touches neither the upstream side nor the port. -/
theorem State.applyClass_keeps (c : UpClass) (r : UpRequest) (s : State) :
    (s.applyClass c r).1.upi = s.upi ∧ (s.applyClass c r).1.dnp = s.dnp := by
  cases c with
  | forward path => exact ⟨rfl, rfl⟩
  | capture x =>
    simp only [State.applyClass]
    split
    · exact ⟨rfl, rfl⟩
    · exact ⟨s.captureWrite_upi x r _, s.captureWrite_dnp x r _⟩
  | noSpace x path => simp [State.applyClass]
  | strayPass x => exact ⟨rfl, rfl⟩
  | strayReject x => exact ⟨rfl, rfl⟩

/-- A class whose write is not captured gives its response no hold (R30, R31). -/
def UpClass.Unheld : UpClass → Prop
  | .forward path => path ≠ .captured true
  | .noSpace _ path => path ≠ .captured true
  | .capture _ => True
  | .strayPass _ => True
  | .strayReject _ => True

theorem RegionFields.uncaptured_ne (f : RegionFields) : f.uncaptured ≠ .captured true := by
  unfold RegionFields.uncaptured
  split <;> simp

theorem State.classify_unheld (s : State) (r : UpRequest) : (s.classify r).Unheld := by
  unfold State.classify
  split
  · simp [UpClass.Unheld]
  · split
    · simp [UpClass.Unheld]
    · dsimp only
      split
      · split <;> trivial
      · split
        · simp [UpClass.Unheld]
        · split
          · split
            · trivial
            · exact RegionFields.uncaptured_ne _
          · exact RegionFields.uncaptured_ne _

/-- A hold is made exactly when the response is to wait for it (R31, R63). -/
theorem State.applyClass_holds {c : UpClass} (hc : c.Unheld) (r : UpRequest) (s : State) :
    ((s.applyClass c r).2 ≠ some (.captured true) ∧ (s.applyClass c r).1.hld = s.hld) ∨
      ((s.applyClass c r).2 = some (.captured true) ∧ ∃ k : Hold, k.tag = r.tag ∧ k.localStatus = none ∧
        (s.applyClass c r).1.hld.holds = s.hld.holds ++ [k]) := by
  cases c with
  | forward path => exact .inl ⟨fun h => hc (Option.some.inj h), rfl⟩
  | capture x =>
    simp only [State.applyClass]
    split
    · exact .inl ⟨by simp, rfl⟩
    · next bytes _ =>
      let seq := s.jnl.captureSeq x r.address (remoteOf r.address (s.region x).fields.displacement) bytes
      unfold State.captureWrite
      dsimp only
      cases hm : (s.region x).fields.mode with
      | async => exact .inl ⟨by simp, by simp⟩
      | sync =>
        refine .inr ⟨by simp, newHold r.tag x seq (s.region x).fields s.now, rfl, rfl, ?_⟩
        simp only [State.addHold, State.countCaptured_hld, State.capture_hld, seq]
  | noSpace x path => exact .inl ⟨fun h => hc (Option.some.inj h), by simp [State.applyClass]⟩
  | strayPass x => exact .inl ⟨by simp [State.applyClass], rfl⟩
  | strayReject x => exact .inl ⟨by simp [State.applyClass], rfl⟩

/-- A granted head is in one place as before: at its entry, or at the hold that has its response (R26, R31). -/
theorem State.PathKeeps.of_issued {s t : State} {r : UpRequest} {rest : List UpRequest} {itag : ITag} {path : UpPath}
    (hin : s.upi.intake = r :: rest) (hfree : s.dnp.tagFree itag = true) (hready : s.ready .up = true)
    (h : t.upi.intake = rest ∧ t.upi.inFlight = s.upi.inFlight ∧ t.upi.responses = s.upi.responses ∧
      t.dnp.outstanding = s.dnp.outstanding ++ [⟨itag, .up r.tag path, false⟩])
    (hhold : path ≠ .captured true ∧ t.hld = s.hld ∨ path = .captured true ∧
      ∃ k : Hold, k.tag = r.tag ∧ k.localStatus = none ∧ t.hld.holds = s.hld.holds ++ [k]) : s.PathKeeps t := by
  obtain ⟨hrest, hfl, hres, hd⟩ := h
  have hport : s.dnp.outstandingLaw = true → t.dnp.outstandingLaw = true := fun hs => by
    rw [Dnp.outstandingLaw_congr (c := ⟨s.dnp.outstanding ++ [⟨itag, .up r.tag path, false⟩], .up, none⟩) hd]
    exact Dnp.outstandingLaw_issue (e := ⟨itag, .up r.tag path, false⟩) hs hfree (State.charged_of_ready hready) _ _
  have hroom : s.TagsSound → t.upi.intake.length ≤ Config.intakeDepth := fun hs => by
    have := hs.room
    rw [hin, List.length_cons] at this
    rw [hrest]
    omega
  have hhead : ∀ g, s.TagsSound → s.upi.inFlight.count g = (if r.tag == g then 1 else 0) +
      (rest.map UpRequest.tag).count g + (s.dnp.outstanding.filterMap OutEntry.ownTag).count g +
      (s.hld.holds.map Hold.tag).count g + (s.upi.responses.map UpResponse.tag).count g := fun g hs => by
    have hg := s.places_iff.1 hs.places g
    rw [hin, List.map_cons, List.count_cons] at hg
    omega
  rcases hhold with ⟨hpath, hh⟩ | ⟨rfl, k, hk, hkl, hh⟩
  · have hown : OutEntry.ownTag ⟨itag, .up r.tag path, false⟩ = some r.tag := by simp [OutEntry.ownTag, hpath]
    have hheld : OutEntry.heldTag ⟨itag, .up r.tag path, false⟩ = none := by simp [OutEntry.heldTag, hpath]
    refine ⟨by rw [hh]; exact id, hport, fun _ hs =>
      ⟨by rw [hfl]; exact hs.nodup, t.places_iff.2 fun g => ?_, ?_, hroom hs⟩⟩
    · have hg := hhead g hs
      rw [hfl, hrest, hres, hd, hh, List.filterMap_append, List.count_append, List.filterMap_cons_some hown,
        List.filterMap_nil, List.count_singleton]
      omega
    · rw [hd, hh, List.filterMap_append, List.filterMap_cons_none hheld, List.filterMap_nil, List.append_nil]
      exact hs.held
  · have hown : OutEntry.ownTag ⟨itag, .up r.tag (.captured true), false⟩ = none := rfl
    have hheld : OutEntry.heldTag ⟨itag, .up r.tag (.captured true), false⟩ = some r.tag := rfl
    refine ⟨fun hw => ?_, hport, fun _ hs => ⟨by rw [hfl]; exact hs.nodup, t.places_iff.2 fun g => ?_, ?_, hroom hs⟩⟩
    · rw [Hld.waitingLaw_iff] at hw ⊢
      rw [hh, List.forall_mem_append]
      exact ⟨hw, List.forall_mem_singleton.2 (k.verdict_eq_none_iff.2 (.inl hkl))⟩
    · have hg := hhead g hs
      rw [hfl, hrest, hres, hd, hh, List.filterMap_append, List.filterMap_cons_none hown, List.filterMap_nil,
        List.append_nil, List.map_append, List.count_append, List.map_singleton, List.count_singleton, hk]
      omega
    · rw [hd, hh, List.filterMap_append, List.filterMap_cons_some hheld, List.filterMap_nil, List.filter_append,
        List.map_append]
      simpa [hkl, hk] using hs.held.append_right [r.tag]

theorem State.grantUp_pathKeeps (itag : ITag) (s t : State) (h : s.grantUp itag = some t) : s.PathKeeps t := by
  unfold State.grantUp at h
  split at h
  · next harb =>
    split at h
    · cases h
    · next r rest hin =>
      have hpop := State.popHead_eq hin
      obtain ⟨hupi, hdnp⟩ := s.popHead.applyClass_keeps (s.classify r) r
      have hholds := s.popHead.applyClass_holds (s.classify_unheld r) r
      split at h
      · next u path heq =>
        rw [heq] at hupi hdnp hholds
        replace hupi : u.upi = { s.upi with intake := rest, stall := none } := hupi.trans (congrArg State.upi hpop)
        replace hdnp : u.dnp = s.dnp := hdnp
        split at h
        · next hfree =>
          cases h
          refine .of_issued (path := path) hin hfree (s.arbiter_ready _ harb) ?_ ?_
          · simp [State.issue, hupi, hdnp]
          · simpa using hholds
        · cases h
      · next u heq =>
        rw [heq] at hupi hdnp hholds
        replace hupi : u.upi = { s.upi with intake := rest, stall := none } := hupi.trans (congrArg State.upi hpop)
        replace hdnp : u.dnp = s.dnp := hdnp
        cases h
        have hhld : u.hld = s.hld := by simpa using hholds
        exact .of_answered (p := ⟨r.tag, .fault, []⟩) hin rfl (by simp [State.respond, hupi, hdnp, hhld])
  · cases h

/-! ### The grants to APL and SWP (R27) -/

/-- An entry that is not UP's is no place of a tag in flight (R24). -/
theorem State.PathKeeps.of_issued_other {s t : State} {e : OutEntry} (hfree : s.dnp.tagFree e.itag = true)
    (hready : s.ready e.owner.requester = true) (howner : e.owner.requester ≠ .up)
    (h : t.upi = s.upi ∧ t.dnp.outstanding = s.dnp.outstanding ++ [e] ∧ t.hld = s.hld) : s.PathKeeps t := by
  obtain ⟨hu, hd, hh⟩ := h
  have hnone : e.ownTag = none ∧ e.heldTag = none := by
    cases ho : e.owner with
    | up tag path => exact absurd (congrArg Owner.requester ho) howner
    | apl q => simp [OutEntry.ownTag, OutEntry.heldTag, ho]
    | swp q => simp [OutEntry.ownTag, OutEntry.heldTag, ho]
  obtain ⟨hown, hheld⟩ := hnone
  refine ⟨by rw [hh]; exact id, fun hs => ?_, fun _ hs =>
    ⟨by rw [hu]; exact hs.nodup, ?_, ?_, by rw [hu]; exact hs.room⟩⟩
  · rw [Dnp.outstandingLaw_congr (c := ⟨s.dnp.outstanding ++ [e], .up, none⟩) hd]
    exact Dnp.outstandingLaw_issue hs hfree (State.charged_of_ready hready) _ _
  · simpa [State.tagPlaces, hu, hd, hh, hown] using hs.places
  · simpa [hd, hh, hheld] using hs.held

theorem State.grantApl_pathKeeps (itag : ITag) (s t : State) (h : s.grantApl itag = some t) : s.PathKeeps t := by
  unfold State.grantApl at h
  split at h
  · next hgrant =>
    split at h <;> cases h
    next rec x _ =>
    exact .of_issued_other (e := ⟨itag, .apl rec.seq, false⟩) hgrant.2 (s.arbiter_ready _ hgrant.1)
      (by simp [Owner.requester]) ⟨rfl, rfl, rfl⟩
  · cases h

theorem State.grantSwp_pathKeeps (itag : ITag) (s t : State) (h : s.grantSwp itag = some t) : s.PathKeeps t := by
  unfold State.grantSwp at h
  split at h
  · next hgrant =>
    split at h <;> cases h
    exact .of_issued_other (e := ⟨itag, .swp s.jnl.nextSeq, false⟩) hgrant.2 (s.arbiter_ready _ hgrant.1)
      (by simp [Owner.requester]) (by simp [State.issue])
  · cases h

end Sys2Proof.Machine

namespace Sys2Proof.Machine

/-! ### Responses from memory (R28 to R33, R65) -/

/-- An internal tag names one outstanding entry (R24). -/
theorem Dnp.outstanding_perm {d : Dnp} {e : OutEntry} (hd : d.outstandingLaw = true) (he : e ∈ d.outstanding) :
    d.outstanding.Perm (e :: d.outstanding.filter fun f => decide (f.itag ≠ e.itag)) := by
  have hnodup := Dnp.nodup_of_law hd
  have herase : d.outstanding.erase e = d.outstanding.filter fun f => decide (f.itag ≠ e.itag) := by
    rw [(List.Nodup.of_map _ hnodup).erase_eq_filter]
    refine List.filter_congr fun f hf => ?_
    rw [Bool.eq_iff_iff, bne_iff_ne, decide_eq_true_eq]
    exact not_congr ⟨congrArg _, List.inj_on_of_nodup_map hnodup hf he⟩
  exact herase ▸ List.perm_cons_erase he

@[simp] theorem State.entryTaken_upi (itag : ITag) (s : State) : (s.entryTaken itag).upi = s.upi := rfl
@[simp] theorem State.entryTaken_hld (itag : ITag) (s : State) : (s.entryTaken itag).hld = s.hld := rfl

/-- Where the tags were before an entry was taken from the port. -/
theorem State.entryTaken_places {s : State} {e : OutEntry} (hd : s.dnp.outstandingLaw = true)
    (he : e ∈ s.dnp.outstanding) (h : s.TagsSound) (g : Tag) :
    s.upi.inFlight.count g = (s.upi.intake.map UpRequest.tag).count g + e.ownTag.toList.count g +
      ((s.entryTaken e.itag).dnp.outstanding.filterMap OutEntry.ownTag).count g + (s.hld.holds.map Hold.tag).count g +
      (s.upi.responses.map UpResponse.tag).count g := by
  have hg := s.places_iff.1 h.places g
  have hown := ((Dnp.outstanding_perm hd he).filterMap OutEntry.ownTag).count_eq g
  have hhead : (e :: (s.entryTaken e.itag).dnp.outstanding).filterMap OutEntry.ownTag =
      e.ownTag.toList ++ (s.entryTaken e.itag).dnp.outstanding.filterMap OutEntry.ownTag := by
    cases ho : e.ownTag <;> simp [ho]
  have hsplit := congrArg (List.count g) hhead
  rw [List.count_append] at hsplit
  change _ = ((e :: (s.entryTaken e.itag).dnp.outstanding).filterMap OutEntry.ownTag).count g at hown
  omega

/-- The holds without a local status, while an entry is taken from the port. -/
theorem State.entryTaken_held {s : State} {e : OutEntry} (hd : s.dnp.outstandingLaw = true)
    (he : e ∈ s.dnp.outstanding) (h : s.TagsSound) :
    (e.heldTag.toList ++ (s.entryTaken e.itag).dnp.outstanding.filterMap OutEntry.heldTag).Perm
      ((s.hld.holds.filter fun k => decide (k.localStatus = none)).map Hold.tag) := by
  refine (List.Perm.symm ?_).trans h.held
  refine ((Dnp.outstanding_perm hd he).filterMap OutEntry.heldTag).trans (.of_eq ?_)
  change (e :: (s.entryTaken e.itag).dnp.outstanding).filterMap OutEntry.heldTag = _
  cases hh : e.heldTag <;> simp [hh]

/-- An entry that neither answers a tag nor gives a hold its local status is no place of a tag. -/
theorem State.entryTaken_pathKeeps {s : State} {e : OutEntry} (he : e ∈ s.dnp.outstanding)
    (hown : e.ownTag = none) (hheld : e.heldTag = none) : s.PathKeeps (s.entryTaken e.itag) := by
  refine ⟨id, fun hd => Dnp.outstandingLaw_filter hd _, fun hd hs =>
    ⟨hs.nodup, (State.places_iff _).2 fun g => ?_, ?_, hs.room⟩⟩
  · simpa [hown] using s.entryTaken_places hd he hs g
  · simpa [hheld] using s.entryTaken_held hd he hs

/-- An answered entry leaves its tag at the ready response (R29 to R31, R75). -/
theorem State.PathKeeps.of_response {s t : State} {e : OutEntry} {p : UpResponse} (he : e ∈ s.dnp.outstanding)
    (hown : e.ownTag = some p.tag) (hheld : e.heldTag = none)
    (h : t.dnp = (s.entryTaken e.itag).dnp ∧ t.upi = { s.upi with responses := s.upi.responses ++ [p] } ∧
      t.hld = s.hld) : s.PathKeeps t := by
  obtain ⟨hd, hu, hh⟩ := h
  refine ⟨by rw [hh]; exact id, fun hs => by rw [hd]; exact Dnp.outstandingLaw_filter hs _, fun hlaw hs =>
    ⟨by rw [hu]; exact hs.nodup, t.places_iff.2 fun g => ?_, ?_, by rw [hu]; exact hs.room⟩⟩
  · have hg := s.entryTaken_places hlaw he hs g
    rw [hown, Option.toList_some] at hg
    rw [hu, hd, hh]
    simp only [List.map_append, List.map_singleton, List.count_append]
    omega
  · rw [hd, hh]
    simpa [hheld] using s.entryTaken_held hlaw he hs

/-- The local status of a held write leaves the other holds without one (R65). -/
theorem filter_unanswered_localStatus (tag : Tag) (st : BusStatus) (l : List Hold) :
    ((l.map fun k => if k.tag = tag then { k with localStatus := some st } else k).filter
        fun k => decide (k.localStatus = none)).map Hold.tag =
      ((l.filter fun k => decide (k.localStatus = none)).map Hold.tag).filter (· != tag) := by
  induction l with
  | nil => rfl
  | cons k l ih =>
    by_cases hk : k.tag = tag
    · by_cases hl : k.localStatus = none <;> simpa [hk, hl] using ih
    · by_cases hl : k.localStatus = none <;> simpa [hk, hl] using ih

/-- The response to a held write gives its hold the local status (R31, R65). -/
theorem State.holdLocalStatus_pathKeeps {s t : State} {e : OutEntry} {tag : Tag} (st : BusStatus)
    (he : e ∈ s.dnp.outstanding) (hown : e.ownTag = none) (hheld : e.heldTag = some tag)
    (h : t.dnp = (s.entryTaken e.itag).dnp ∧ t.upi = s.upi ∧ t.hld = s.hld) :
    s.PathKeeps (t.holdLocalStatus tag st) := by
  obtain ⟨hd, hu, hh⟩ := h
  refine ⟨fun _ => (Hld.waitingLaw_iff _).2 (State.formResponses_verdict _),
    fun hs => by rw [State.holdLocalStatus_dnp, hd]; exact Dnp.outstandingLaw_filter hs _,
    fun hlaw hs => State.TagsSound.formResponses ?_⟩
  have htags : ∀ l : List Hold, (l.map fun k => if k.tag = tag then { k with localStatus := some st } else k).map
      Hold.tag = l.map Hold.tag := fun l => by
    rw [List.map_map]
    exact List.map_congr_left fun k _ => by dsimp only [Function.comp]; split <;> rfl
  refine ⟨by rw [State.mapHolds_upi, hu]; exact hs.nodup, (State.places_iff _).2 fun g => ?_, ?_,
    by rw [State.mapHolds_upi, hu]; exact hs.room⟩
  · have hg := s.entryTaken_places hlaw he hs g
    simp only [State.mapHolds, hu, hd, hh, htags]
    simpa [hown] using hg
  · have hs' := s.entryTaken_held hlaw he hs
    have hnodup : ((s.hld.holds.filter fun k => decide (k.localStatus = none)).map Hold.tag).Nodup :=
      hs.holds_nodup.sublist (List.filter_sublist.map _)
    rw [hheld, Option.toList_some, List.singleton_append, List.cons_perm_iff_perm_erase,
      hnodup.erase_eq_filter] at hs'
    simp only [State.mapHolds, hd, hh, filter_unanswered_localStatus]
    exact hs'.2

theorem State.localFault_keeps (st : BusStatus) (s : State) :
    (s.localFault st).upi = s.upi ∧ (s.localFault st).dnp = s.dnp ∧ (s.localFault st).hld = s.hld := by
  cases st <;> exact ⟨rfl, rfl, rfl⟩

theorem State.sweepAnswer_pathKeeps (q : Seq) (st : BusStatus) (data : List Byte) (s : State) :
    s.PathKeeps (s.sweepAnswer q st data) := by
  have hother : s.PathKeeps (s.otherReadAnswer q st data) := by
    unfold State.otherReadAnswer
    split
    · exact .refl s
    · exact .of_parts (by simp)
    · exact .of_parts (by simp)
  unfold State.sweepAnswer
  split
  · split
    · cases st <;> exact .of_parts (by simp [State.ownReadAnswer])
    · exact hother
  · exact hother

/-- The response to a transaction of UP that is not abandoned (R29 to R31, R33, R75). -/
theorem State.upAnswer_pathKeeps {s : State} {itag : ITag} {tag : Tag} {path : UpPath} (st : BusStatus)
    (data : List Byte) (he : ⟨itag, .up tag path, false⟩ ∈ s.dnp.outstanding) :
    s.PathKeeps ((s.entryTaken itag).upAnswer tag path st data) := by
  have hanswered : ∀ (u : State) (st' : BusStatus) (data' : List Byte), path ≠ .captured true →
      u.upi = s.upi ∧ u.dnp = (s.entryTaken itag).dnp ∧ u.hld = s.hld → s.PathKeeps (u.respond tag st' data') := by
    intro u st' data' hpath ⟨hu, hd, hh⟩
    refine .of_response (p := ⟨tag, st', data'⟩) he ?_ ?_ ⟨hd, ?_, hh⟩
    · simp [OutEntry.ownTag, hpath]
    · simp [OutEntry.heldTag, hpath]
    · simp only [State.respond, hu]
  obtain ⟨hu, hd, hh⟩ := (s.entryTaken itag).localFault_keeps st
  cases path with
  | read n => exact hanswered _ _ _ (by simp) ⟨rfl, rfl, rfl⟩
  | plain => exact hanswered _ _ _ (by simp) ⟨rfl, rfl, rfl⟩
  | uncapturedSync a => exact hanswered _ _ _ (by simp) ⟨rfl, rfl, rfl⟩
  | captured held =>
    cases held with
    | false => exact hanswered _ _ _ (by simp) ⟨hu, hd, hh⟩
    | true => exact State.holdLocalStatus_pathKeeps st he rfl rfl ⟨hd, hu, hh⟩

theorem State.upAbandoned_pathKeeps (path : UpPath) (st : BusStatus) (s : State) :
    s.PathKeeps (s.upAbandoned path st) := by
  unfold State.upAbandoned
  split
  · obtain ⟨hu, hd, hh⟩ := s.localFault_keeps st
    exact .of_parts (by simp [hu, hd, hh])
  · exact .refl s

theorem State.takeDownstream_pathKeeps (itag : ITag) (st : BusStatus) (data : List Byte) (s t : State)
    (h : s.takeDownstream itag st data = some t) : s.PathKeeps t := by
  cases hfind : s.dnp.outstanding.find? (fun e => decide (e.itag = itag)) with
  | none => simp [State.takeDownstream, hfind] at h
  | some e =>
    rw [State.takeDownstream_some st data hfind, Option.some.injEq] at h
    have hitag : e.itag = itag := by simpa using List.find?_some hfind
    have he := List.mem_of_find?_eq_some hfind
    subst hitag h
    obtain ⟨itag, owner, abandoned⟩ := e
    cases owner with
    | up tag path =>
      cases abandoned with
      | false => exact s.upAnswer_pathKeeps st data he
      | true => exact (s.entryTaken_pathKeeps he rfl rfl).trans (State.upAbandoned_pathKeeps path st _)
    | apl q => exact (s.entryTaken_pathKeeps he rfl rfl).trans (.of_parts (by simp [State.deliver]))
    | swp q =>
      refine (s.entryTaken_pathKeeps he rfl rfl).trans ?_
      cases abandoned with
      | false => exact State.sweepAnswer_pathKeeps q st _ _
      | true => exact .refl _

/-! ### Host bus reset and a NEW session at the port (R34, R36, R73) -/

/-- Host bus reset leaves no tag in any place (R34, R73). -/
theorem State.hostBusClear_pathKeeps (s : State) : s.PathKeeps s.hostBusClear := by
  have hport : Dnp.outstandingLaw { s.dnp with outstanding := s.dnp.outstanding.map OutEntry.hostBusReset } =
      s.dnp.outstandingLaw :=
    Dnp.outstandingLaw_map (fun e => by obtain ⟨_, owner, _⟩ := e; cases owner <;> rfl)
      (fun e => by obtain ⟨_, owner, _⟩ := e; cases owner <;> rfl)
  have hnone : ∀ e : OutEntry, e.hostBusReset.ownTag = none ∧ e.hostBusReset.heldTag = none := fun e => by
    obtain ⟨_, owner, _⟩ := e
    cases owner <;> exact ⟨rfl, rfl⟩
  refine ⟨fun _ => rfl, fun hd => hport.trans hd, fun _ _ => ⟨.nil, .of_eq ?_, .of_eq ?_, Nat.zero_le _⟩⟩
  · simp [State.hostBusClear, State.tagPlaces, hnone]
  · simp [State.hostBusClear, hnone]

theorem OutEntry.newSession_keeps (e : OutEntry) : e.newSession.itag = e.itag ∧ e.newSession.owner = e.owner ∧
    e.newSession.ownTag = e.ownTag ∧ e.newSession.heldTag = e.heldTag := by
  obtain ⟨_, owner, _⟩ := e
  cases owner <;> exact ⟨rfl, rfl, rfl, rfl⟩

/-- A NEW session abandons entries that answer no tag (R36). -/
theorem State.abandon_pathKeeps (s : State) :
    s.PathKeeps { s with dnp := { s.dnp with outstanding := s.dnp.outstanding.map OutEntry.newSession } } := by
  have hport := Dnp.outstandingLaw_map (d := s.dnp) (f := OutEntry.newSession) (fun e => e.newSession_keeps.1)
    (fun e => e.newSession_keeps.2.1)
  have hown : (s.dnp.outstanding.map OutEntry.newSession).filterMap OutEntry.ownTag =
      s.dnp.outstanding.filterMap OutEntry.ownTag := by
    rw [List.filterMap_map]
    exact List.filterMap_congr fun e _ => e.newSession_keeps.2.2.1
  have hheld : (s.dnp.outstanding.map OutEntry.newSession).filterMap OutEntry.heldTag =
      s.dnp.outstanding.filterMap OutEntry.heldTag := by
    rw [List.filterMap_map]
    exact List.filterMap_congr fun e _ => e.newSession_keeps.2.2.2
  refine ⟨id, fun hd => hport.trans hd, fun _ hs => ⟨hs.nodup, ?_, ?_, hs.room⟩⟩
  · simpa only [State.tagPlaces, hown] using hs.places
  · simpa only [hheld] using hs.held

theorem State.applySession_pathKeeps (d : Decision) (e : Seq) (s : State) : s.PathKeeps (s.applySession d e) := by
  cases d with
  | resume => exact .of_parts (by simp [State.applySession])
  | newSession =>
    rw [State.applySession_newSession]
    have hnew : s.PathKeeps s.sessionNew := .of_parts ⟨rfl, rfl, rfl, rfl, rfl⟩
    refine ((hnew.trans s.sessionNew.holdsNew_pathKeeps).trans (State.abandon_pathKeeps _)).trans (.of_parts ?_)
    simp [State.blocksNew_upi, State.blocksNew_hld, State.blocksNew_dnp]

end Sys2Proof.Machine

namespace Sys2Proof.Machine

/-! ### What the STALL test of the head reads (R21) -/

/-- An entry that the STALL test reads as before: its state stays, and while it is live its fields but the mode. -/
structure Region.StallsAs (e e' : Region) : Prop where
  state : e'.state = e.state
  fields : e.state ≠ .disabled → ∃ m, e'.fields = { e.fields with mode := m }

theorem Region.StallsAs.refl (e : Region) : e.StallsAs e := ⟨rfl, fun _ => ⟨e.fields.mode, rfl⟩⟩

/-- Replacing one entry by one that is read as before. -/
theorem State.setRegion_stallsAs (s : State) (r : RegionIx) (e : Region) (h : (s.region r).StallsAs e)
    (x : RegionIx) : (s.region x).StallsAs ((s.setRegion r e).region x) := by
  rw [State.region_setRegion]
  split
  · next heq => rw [heq]; exact h
  · exact .refl _

theorem State.lookup_congr {s t : State} (h : ∀ x, (s.region x).StallsAs (t.region x)) (p : Nat) :
    t.lookup p = s.lookup p := by
  unfold State.lookup
  congr 1
  funext x
  rw [(h x).state]
  by_cases hd : (s.region x).state = .disabled
  · simp [hd]
  · obtain ⟨m, hm⟩ := (h x).fields hd
    simp [hm, RegionFields.covers]

/-- The space test reads the records alone (R42). -/
theorem Jnl.captureFits_congr {i j : Jnl} (h : j.records = i.records) (x : RegionIx) (a remote : Addr)
    (bytes : List (Byte × Bool)) : j.captureFits x a remote bytes = i.captureFits x a remote bytes := by
  unfold Jnl.captureFits Jnl.coalesceInto Jnl.bytes
  rw [h]

theorem State.stallOf_congr {s t : State} (hr : ∀ x, (s.region x).StallsAs (t.region x))
    (hj : t.jnl.records = s.jnl.records) (r : UpRequest) : t.stallOf r = s.stallOf r := by
  refine Option.ext fun x => ?_
  rw [State.stallOf_iff, State.stallOf_iff, State.lookup_congr hr]
  refine exists_congr fun bytes => ?_
  by_cases hl : s.lookup (pageOf r.address) = some x
  · obtain ⟨m, hm⟩ := (hr x).fields (s.lookup_some _ x hl).1
    simp only [Region.capturing, (hr x).state, hm, Jnl.captureFits_congr hj]
  · simp [hl]

/-- The law of the STALL wait reads the queue, the timer, the table and the records (R22). -/
theorem State.stallLaw_congr {s t : State} (hin : t.upi.intake = s.upi.intake) (hs : t.upi.stall = s.upi.stall)
    (hr : ∀ x, (s.region x).StallsAs (t.region x)) (hj : t.jnl.records = s.jnl.records) :
    t.stallLaw = s.stallLaw := by
  simp only [State.stallLaw, State.stallRegion, hin, hs, State.stallOf_congr hr hj]

/-- The check of the STALL wait leaves a head in STALL with a running timer, or a region that captures no more
(R22, R23). -/
theorem State.stallCheck_stallLaw (s : State) : s.stallCheck.stallLaw = true := by
  unfold State.stallCheck
  split
  · next hnone => simp [State.stallLaw, hnone]
  · next x hx =>
    split
    · simp [State.stallLaw]
    · next d hd =>
      split
      · simp [State.stallLaw, (State.stallActions_stallRegion hx).2]
      · next hrun => simp [State.stallLaw, hd, hrun]

/-! ### What follows an event -/

theorem State.stallCheck_pathKeeps (s : State) : s.PathKeeps s.stallCheck := by
  unfold State.stallCheck
  split
  · exact .refl s
  · split
    · exact .of_parts ⟨rfl, rfl, rfl, rfl, rfl⟩
    · split
      · exact .of_parts (by simp)
      · exact .refl s

theorem State.settle_pathKeeps (s : State) : s.PathKeeps s.settle :=
  (s.acceptPresented_pathKeeps.trans (State.stallCheck_pathKeeps _)).trans (.of_parts (by simp [State.settle]))

theorem State.settle_stallLaw (s : State) : s.settle.stallLaw = true := by
  refine (State.stallLaw_congr ?_ ?_ (fun x => ?_) ?_).trans s.acceptPresented.stallCheck_stallLaw
  · simp [State.settle]
  · simp [State.settle]
  · simpa [State.settle, State.region] using Region.StallsAs.refl _
  · simp [State.settle]

/-- What a step is to keep: the laws of the memory path, and that of the STALL wait. -/
structure State.PathStep (s t : State) : Prop where
  keeps : s.PathKeeps t
  stall : s.stallLaw = true → t.stallLaw = true

theorem State.PathStep.refl (s : State) : s.PathStep s := ⟨.refl s, id⟩

theorem State.PathStep.trans {s t u : State} (h : s.PathStep t) (k : t.PathStep u) : s.PathStep u :=
  ⟨h.keeps.trans k.keeps, fun hs => k.stall (h.stall hs)⟩

/-- Of a change after which nothing follows. -/
theorem State.PathStep.of_parts {s t : State}
    (h : (t.upi.intake = s.upi.intake ∧ t.upi.inFlight = s.upi.inFlight ∧ t.upi.responses = s.upi.responses ∧
      t.dnp.outstanding = s.dnp.outstanding ∧ t.hld = s.hld) ∧
      t.upi.stall = s.upi.stall ∧ t.jnl.records = s.jnl.records)
    (hr : ∀ x, (s.region x).StallsAs (t.region x)) : s.PathStep t := by
  obtain ⟨hparts, hs, hj⟩ := h
  exact ⟨.of_parts hparts, fun hlaw => (State.stallLaw_congr hparts.1 hs hr hj).trans hlaw⟩

/-- Of a change that leaves the table alone too. -/
theorem State.PathStep.of_rgt {s t : State}
    (h : (t.upi.intake = s.upi.intake ∧ t.upi.inFlight = s.upi.inFlight ∧ t.upi.responses = s.upi.responses ∧
      t.dnp.outstanding = s.dnp.outstanding ∧ t.hld = s.hld) ∧
      t.upi.stall = s.upi.stall ∧ t.jnl.records = s.jnl.records) (hr : t.rgt = s.rgt) : s.PathStep t :=
  .of_parts h fun x => by simpa only [State.region, hr] using Region.StallsAs.refl _

/-- The reactions that follow a change start the stall timer where the change has put the head in STALL. -/
theorem State.PathKeeps.settled {s t : State} (h : s.PathKeeps t) : s.PathStep t.settle :=
  ⟨h.trans t.settle_pathKeeps, fun _ => t.settle_stallLaw⟩

theorem State.event_pathStep {f : State → Option State} {r s : State} (hs : r.PathStep s)
    (hf : ∀ t, f s = some t → r.PathKeeps t) : r.PathStep (s.event f) := by
  unfold State.event
  split
  · exact hs
  · cases hft : f s with
    | none => exact hs
    | some t => exact (hf t hft).settled

/-! ### Timers and this node's turns -/

theorem State.expireStall_pathKeeps (s t : State) (h : s.expireStall = some t) : s.PathKeeps t := by
  unfold State.expireStall at h
  split at h
  · cases h
  · split at h
    · cases h
    · dsimp only at h
      split at h <;> cases h <;> exact .of_parts (by simp)

theorem State.deadlineExpires_pathKeeps (tag : Tag) (s t : State) (h : s.deadlineExpires tag = some t) :
    s.PathKeeps t := by
  unfold State.deadlineExpires at h
  split at h
  · cases h
  · next k _ =>
    split at h <;> cases h
    have hreach : s.PathKeeps (s.reach k.deadline) := .of_parts (by simp)
    exact hreach.trans (State.expireHold_pathKeeps tag _)

theorem State.answerOpportunity_pathKeeps (u : Turn) (s : State) : s.PathKeeps (s.answerOpportunity u) := by
  unfold State.answerOpportunity
  dsimp only
  split
  · split <;> exact .of_parts (by simp)
  · exact .of_parts (by simp)

theorem State.afterFrame_pathKeeps (f : TxFrame) (s : State) : s.PathKeeps (s.afterFrame f) := by
  unfold State.afterFrame
  split
  · exact .of_parts (by simp)
  · split
    · exact .of_parts (by simp)
    · exact .refl s
  · exact .of_parts (by simp)
  · exact .refl s
  · exact .refl s
  · exact .refl s

theorem State.completeFrame_pathKeeps (s t : State) (h : s.completeFrame = some t) : s.PathKeeps t := by
  unfold State.completeFrame at h
  split at h <;> cases h
  exact .trans (.of_parts (by simp)) (State.afterFrame_pathKeeps _ _)

theorem State.collide_pathKeeps (s t : State) (h : s.collide = some t) : s.PathKeeps t := by
  unfold State.collide at h
  split at h <;> cases h
  split
  · unfold State.backOff
    split <;> exact .of_parts (by simp)
  · exact .of_parts (by simp)

theorem State.expireGuard_pathKeeps (s t : State) (h : s.expireGuard = some t) : s.PathKeeps t := by
  unfold State.expireGuard at h
  split at h
  · cases h
  · split at h <;> cases h
    exact .of_parts (by simp)

theorem State.expireDwell_pathKeeps (s t : State) (h : s.expireDwell = some t) : s.PathKeeps t := by
  unfold State.expireDwell at h
  split at h
  · cases h
  · split at h <;> cases h
    exact .of_parts (by simp)

theorem State.expireSilence_pathKeeps (s t : State) (h : s.expireSilence = some t) : s.PathKeeps t := by
  unfold State.expireSilence at h
  split at h
  · cases h
  · split at h <;> cases h
    split <;> exact .of_parts (by simp)

/-! ### The peer's frames -/

theorem State.detectMark_pathKeeps (s t : State) (h : s.detectMark = some t) : s.PathKeeps t := by
  unfold State.detectMark at h
  split at h
  · cases h
  · split at h
    · cases h; exact .of_parts (by simp)
    · dsimp only at h
      split at h <;> cases h <;> exact .of_parts (by simp)

theorem State.headerAck_pathKeeps (h : Header) (s : State) : s.PathKeeps (s.headerAck h) := by
  unfold State.headerAck
  split <;> exact .of_parts (by simp)

theorem State.headerTurn_pathKeeps (h : Header) (s : State) : s.PathKeeps (s.headerTurn h) := by
  unfold State.headerTurn
  split
  · split
    · exact .of_parts (by simp)
    · exact .refl s
  · exact .refl s

theorem State.acksOfHeader_pathKeeps (h : Header) (s : State) : s.PathKeeps (s.acksOfHeader h) := by
  have hconfirm : s.PathKeeps s.confirmSession := .of_parts ⟨rfl, rfl, rfl, rfl, rfl⟩
  have hswept : ∀ u : State, u.PathKeeps (u.sweepAplAck h.aplAck) := fun u => .of_parts (by simp)
  exact (((hconfirm.trans (State.headerAck_pathKeeps h _)).trans (State.holdsAplAck_pathKeeps _ _)).trans
    (hswept _)).trans (State.headerTurn_pathKeeps h _)

theorem State.actOnHeader_pathKeeps (h : Header) (s : State) : s.PathKeeps (s.actOnHeader h) := by
  unfold State.actOnHeader
  split
  · split
    · exact s.acksOfHeader_pathKeeps h
    · exact s.acksOfHeader_pathKeeps h
    · split
      · exact .refl s
      · exact .of_parts (by simp)
    · exact .refl s
    · exact .refl s
  · exact .refl s

theorem State.receiveHeader_pathKeeps (bytes : List Byte) (s t : State) (h : s.receiveHeader bytes = some t) :
    s.PathKeeps t := by
  unfold State.receiveHeader at h
  split at h
  · split at h <;> cases h
    · exact .trans (.of_parts (by simp)) (State.actOnHeader_pathKeeps _ _)
    · exact .of_parts (by simp)
  · cases h

theorem State.acceptData_pathKeeps (h : Header) (body : List Byte) (s : State) : s.PathKeeps (s.acceptData h body) := by
  unfold State.acceptData
  split
  · exact .of_parts (by simp)
  · split
    · exact .of_parts (by simp)
    · unfold State.acceptInOrder
      dsimp only
      split
      · exact .of_parts (by simp)
      · split
        · exact .of_parts (by simp)
        · split <;> exact .of_parts ⟨rfl, rfl, rfl, rfl, rfl⟩

/-! ### Training -/

theorem State.recordWindow_pathKeeps (w : Nat) (s : State) : s.PathKeeps (s.recordWindow w) :=
  .of_parts ⟨rfl, rfl, rfl, rfl, rfl⟩

theorem State.takeReply_pathKeeps (t : Training) (fresh : Bool) (b : HelloBody) (s : State) :
    s.PathKeeps (s.takeReply t fresh b) := by
  have hdecided := (s.recordWindow_pathKeeps b.window).trans
    (State.applySession_pathKeeps (s.sessionDecision fresh b) b.expected _)
  exact hdecided.trans (.of_parts ⟨rfl, rfl, rfl, rfl, rfl⟩)

theorem State.helloAtPrimary_pathKeeps (t : Training) (h : Header) (b : HelloBody) (s : State) :
    s.PathKeeps (s.helloAtPrimary t h b) := by
  unfold State.helloAtPrimary
  split
  · split
    · exact s.takeReply_pathKeeps t h.fresh b
    · exact .refl s
  · exact .refl s
  · exact (s.recordWindow_pathKeeps b.window).trans (.of_parts (by simp))
  · exact .refl s

theorem State.helloAtSecondary_pathKeeps (t : Training) (h : Header) (b : HelloBody) (s : State) :
    s.PathKeeps (s.helloAtSecondary t h b) := by
  unfold State.helloAtSecondary
  split
  · exact (s.recordWindow_pathKeeps b.window).trans (.of_parts ⟨rfl, rfl, rfl, rfl, rfl⟩)
  · exact .refl s
  · exact .refl s

theorem State.startAtSecondary_pathKeeps (t : Training) (d : Decision) (s : State) :
    s.PathKeeps (s.startAtSecondary t d) := by
  unfold State.startAtSecondary
  split
  · next e _ _ => exact (s.applySession_pathKeeps d e).trans (.of_parts (by simp))
  · exact .refl s

theorem State.trainingFrame_pathKeeps (t : Training) (h : Header) (body : List Byte) (s : State) :
    s.PathKeeps (s.trainingFrame t h body) := by
  unfold State.trainingFrame
  split
  · split
    · exact .refl s
    · next b _ =>
      split
      · exact s.helloAtPrimary_pathKeeps t h b
      · exact s.helloAtPrimary_pathKeeps t h b
      · exact s.helloAtSecondary_pathKeeps t h b
      · exact s.helloAtSecondary_pathKeeps t h b
      · exact s.helloAtSecondary_pathKeeps t h b
  · split
    · exact .refl s
    · exact s.startAtSecondary_pathKeeps t _
  · exact .refl s
  · exact .refl s
  · exact .refl s

/-! ### The end of a frame -/

theorem State.restartSilence_pathKeeps (s : State) : s.PathKeeps s.restartSilence := by
  unfold State.restartSilence
  split
  · split
    · exact .of_parts (by simp)
    · exact .refl s
  · exact .refl s

theorem State.handover_pathKeeps (h : Header) (s : State) : s.PathKeeps (s.handover h) := by
  unfold State.handover
  split
  · split
    · exact .of_parts (by simp)
    · exact .refl s
  · exact .refl s

theorem State.endOfFrame_pathKeeps (h : Header) (rest : List Byte) (s : State) :
    s.PathKeeps (s.endOfFrame h rest) := by
  unfold State.endOfFrame
  split
  · split
    · exact (s.acceptData_pathKeeps h rest).trans (State.handover_pathKeeps h _)
    · exact s.handover_pathKeeps h
    · exact .refl s
    · exact .refl s
    · exact .refl s
  · split
    · exact s.trainingFrame_pathKeeps _ h rest
    · exact .refl s
  · exact .refl s
  · exact .refl s

theorem State.lineReturns_pathKeeps (s : State) : s.PathKeeps s.lineReturns :=
  .trans (t := { s.lineReleased with frx := { s.frx with rx := none } }) (.of_parts ⟨rfl, rfl, rfl, rfl, rfl⟩)
    (State.restartSilence_pathKeeps _)

theorem State.receiveEnd_pathKeeps (rest : List Byte) (s t : State) (h : s.receiveEnd rest = some t) :
    s.PathKeeps t := by
  unfold State.receiveEnd at h
  split at h
  · dsimp only at h
    split at h <;> cases h
    · exact s.lineReturns_pathKeeps
    · exact s.lineReturns_pathKeeps.trans (.of_parts (by simp))
    · exact s.lineReturns_pathKeeps
    · exact s.lineReturns_pathKeeps.trans (State.endOfFrame_pathKeeps _ rest _)
  · unfold State.unheardEnd at h
    split at h <;> cases h
    have hreleased : s.PathKeeps s.lineReleased := .of_parts (by simp)
    exact hreleased.trans (State.restartSilence_pathKeeps _)

/-! ### Training timers -/

theorem State.expireRetrain_pathKeeps (s t : State) (h : s.expireRetrain = some t) : s.PathKeeps t := by
  unfold State.expireRetrain at h
  split at h <;> cases h
  exact .of_parts (by simp)

theorem State.expireHello_pathKeeps (s t : State) (h : s.expireHello = some t) : s.PathKeeps t := by
  unfold State.expireHello at h
  split at h
  · cases h
  · split at h <;> cases h
    exact .of_parts (by simp)

theorem State.expireTrainingGuard_pathKeeps (phase : Phase) (want : TrainFrame) (s t : State)
    (h : s.expireTrainingGuard phase want = some t) : s.PathKeeps t := by
  unfold State.expireTrainingGuard at h
  split at h
  · cases h
  · split at h
    · cases h
    · split at h <;> cases h
      exact .of_parts (by simp)

theorem State.expireTraining_pathKeeps (s t : State) (h : s.expireTraining = some t) : s.PathKeeps t := by
  unfold State.expireTraining at h
  split at h <;> cases h
  exact .of_parts (by simp)

end Sys2Proof.Machine

namespace Sys2Proof.Machine

/-! ### The management port (R167 to R180) -/

/-- What a request keeps: one that is answered, all that a step keeps; one that acts, what the reactions do not
restore. -/
def Verdict.KeepsPath (s : State) : Verdict → Prop
  | .refused _ => True
  | .answered _ t => s.PathStep t
  | .acted t => s.PathKeeps t

theorem State.shiftOut_pathStep (n m : Nat) (s : State) : s.PathStep (s.shiftOut n m) :=
  .of_rgt ⟨⟨rfl, rfl, rfl, rfl, rfl⟩, rfl, rfl⟩ rfl

theorem State.answer_pathStep (st : Status) (p : List Byte) (s : State) : s.PathStep (s.answer st p) :=
  .of_rgt ⟨⟨rfl, rfl, rfl, rfl, rfl⟩, rfl, rfl⟩ rfl

theorem State.transaction_pathStep (t : Transaction) (len : Nat) (run : List Byte → State → Verdict) (s : State)
    (hrun : ∀ p u, (run p u).KeepsPath u) : s.PathStep (s.transaction t len run) := by
  unfold State.transaction
  split
  · exact .refl s
  · have hu := s.shiftOut_pathStep (t.bytes.length + 1) t.tail.length
    dsimp only
    split
    · exact hu.trans (State.answer_pathStep _ _ _)
    · next p _ =>
      have hv := hrun p (s.shiftOut (t.bytes.length + 1) t.tail.length)
      split
      · exact hu.trans (State.answer_pathStep _ _ _)
      · next heq => rw [heq] at hv; exact (hu.trans hv).trans (State.answer_pathStep _ _ _)
      · next v heq =>
        rw [heq] at hv
        exact ((hu.keeps.trans hv).trans (v.answer_pathStep .ok []).keeps).settled

/-- A request on a region. -/
theorem withRegion_keepsPath {s : State} (p : List Byte) {f : RegionIx → Verdict} (h : ∀ r, (f r).KeepsPath s) :
    (withRegion p f).KeepsPath s := by
  unfold withRegion
  split
  · trivial
  · exact h _

/-- A replaced entry that the STALL test reads as before. -/
theorem State.setRegion_pathStep (s : State) (r : RegionIx) (e : Region) (h : (s.region r).StallsAs e) :
    s.PathStep (s.setRegion r e) :=
  .of_parts (by simp) (s.setRegion_stallsAs r e h)

/-- A DISABLED entry is read by no STALL test, whatever is loaded into it (R2, R21). -/
theorem State.regionSet_keepsPath (p : List Byte) (s : State) : (s.regionSet p).KeepsPath s := by
  refine withRegion_keepsPath p fun r => ?_
  split
  · trivial
  · next hd =>
    split
    · trivial
    · split
      · exact s.setRegion_pathStep r _ ⟨rfl, fun hlive => absurd hlive hd⟩
      · trivial

theorem State.regionEnable_keepsPath (p : List Byte) (s : State) : (s.regionEnable p).KeepsPath s := by
  refine withRegion_keepsPath p fun r => ?_
  split
  · trivial
  · split
    · trivial
    · refine State.PathKeeps.of_parts ?_
      unfold State.enableRegion
      split
      · simp
      · dsimp only
        split <;> simp

theorem State.regionDisable_keepsPath (p : List Byte) (s : State) : (s.regionDisable p).KeepsPath s := by
  refine withRegion_keepsPath p fun r => ?_
  split
  · exact .refl s
  · exact State.PathKeeps.of_parts (by simp)

theorem State.regionResync_keepsPath (p : List Byte) (s : State) : (s.regionResync p).KeepsPath s := by
  refine withRegion_keepsPath p fun r => ?_
  split
  · exact State.PathKeeps.of_parts (by simp)
  · trivial

/-- The STALL test does not read a region's mode (R12, R21). -/
theorem State.regionMode_keepsPath (p : List Byte) (s : State) : (s.regionMode p).KeepsPath s := by
  refine withRegion_keepsPath p fun r => ?_
  split
  · split
    · trivial
    · next m _ => exact s.setRegion_pathStep r _ ⟨rfl, fun _ => ⟨m, rfl⟩⟩
  · trivial

theorem State.linkSet_keepsPath (p : List Byte) (s : State) : (s.linkSet p).KeepsPath s := by
  unfold State.linkSet
  split
  · split
    · trivial
    · split
      · exact .of_rgt ⟨⟨rfl, rfl, rfl, rfl, rfl⟩, rfl, rfl⟩ rfl
      · trivial
  · trivial

theorem State.linkEnable_keepsPath (s : State) : s.linkEnable.KeepsPath s := by
  unfold State.linkEnable
  split
  · exact State.PathKeeps.of_parts (by simp)
  · trivial

theorem State.linkRenew_pathKeeps (s : State) : s.PathKeeps s.linkRenew :=
  .of_parts (by simp [State.linkRenew])

/-- Marks and reserve are no part of the space test (R42, R175). -/
theorem State.journalSet_keepsPath (p : List Byte) (s : State) : (s.journalSet p).KeepsPath s := by
  have hmarks : ∀ u : State, u.evalMarks.jnl.records = u.jnl.records := fun u => by rw [u.evalMarks_keeps.1]
  unfold State.journalSet
  dsimp only
  split
  · exact .of_rgt (by simp [hmarks]) (by simp)
  · trivial

theorem State.zeroCounter_pathStep (c : CounterId) (s : State) : s.PathStep (s.zeroCounter c) := by
  cases c with
  | device k => exact .of_rgt ⟨⟨rfl, rfl, rfl, rfl, rfl⟩, rfl, rfl⟩ rfl
  | captured r => exact s.setRegion_pathStep r _ ⟨rfl, fun _ => ⟨_, rfl⟩⟩
  | stray r => exact s.setRegion_pathStep r _ ⟨rfl, fun _ => ⟨_, rfl⟩⟩
  | applied r => exact s.setRegion_pathStep r _ ⟨rfl, fun _ => ⟨_, rfl⟩⟩

theorem State.zeroAll_pathStep (s : State) : s.PathStep s.zeroAll := by
  refine .of_parts ⟨⟨rfl, rfl, rfl, rfl, rfl⟩, rfl, rfl⟩ fun x => ?_
  have : s.zeroAll.region x = (s.region x).zeroCounters := by simp [State.zeroAll, State.region]
  rw [this]
  exact ⟨rfl, fun _ => ⟨_, rfl⟩⟩

/-! ### Every command -/

/-- After RESET no tag is in flight and no head waits (R35). -/
theorem State.resetAsserted_pathStep (s : State) : s.PathStep s.resetAsserted :=
  ⟨⟨fun _ => rfl, fun _ => rfl, fun _ _ => ⟨.nil, .nil, .nil, Nat.zero_le _⟩⟩, fun _ => rfl⟩

/-- Every command keeps the laws of the memory path. -/
theorem exec_pathStep (c : Instr) (s t : State) (h : exec c s = .next t) : s.PathStep t := by
  have hnext : ∀ {u : State}, (Host.Outcome.next u : Host.Outcome State Fault Refusal) = .next t → s.PathStep u →
      s.PathStep t := by
    intro u hu hk
    cases hu
    exact hk
  have hevent : ∀ {f : State → Option State}, (∀ u, f s = some u → s.PathKeeps u) → s.PathStep (s.event f) :=
    fun hf => State.event_pathStep (.refl s) hf
  cases c with
  | upstreamRequest r =>
    refine hnext h (State.event_pathStep (.of_rgt ⟨⟨rfl, rfl, rfl, rfl, rfl⟩, rfl, rfl⟩ rfl) fun u hu => ?_)
    cases hu
    exact .of_parts ⟨rfl, rfl, rfl, rfl, rfl⟩
  | malformedHead => exact hnext h (hevent s.answerMalformed_pathKeeps)
  | upGrant itag => exact hnext h (hevent (s.grantUp_pathKeeps itag))
  | aplGrant itag => exact hnext h (hevent (s.grantApl_pathKeeps itag))
  | swpGrant itag => exact hnext h (hevent (s.grantSwp_pathKeeps itag))
  | downstreamResponse itag st data => exact hnext h (hevent (s.takeDownstream_pathKeeps itag st data.toList))
  | upstreamResponse tag => exact hnext h (hevent (s.sendResponse_pathKeeps tag))
  | stallTimerExpiry => exact hnext h (hevent s.expireStall_pathKeeps)
  | hostBusReset =>
    change execHostBusReset s = _ at h
    unfold execHostBusReset at h
    split at h
    · exact hnext h (.of_rgt ⟨⟨rfl, rfl, rfl, rfl, rfl⟩, rfl, rfl⟩ rfl)
    · refine hnext h (hevent fun u hu => ?_)
      split at hu <;> cases hu
      exact s.hostBusClear_pathKeeps
  | hostBusResetRelease =>
    refine hnext h (State.event_pathStep (.of_rgt ⟨⟨rfl, rfl, rfl, rfl, rfl⟩, rfl, rfl⟩ rfl) fun u hu => ?_)
    cases hu
    exact .of_parts ⟨rfl, rfl, rfl, rfl, rfl⟩
  | reset => exact hnext h s.resetAsserted_pathStep
  | holdDeadlineExpiry tag => exact hnext h (hevent (s.deadlineExpires_pathKeeps tag))
  | frameOpportunity =>
    refine hnext h (hevent fun u hu => ?_)
    split at hu
    · cases hu
    · split at hu <;> cases hu
      exact s.answerOpportunity_pathKeeps _
  | frameCompleted => exact hnext h (hevent s.completeFrame_pathKeeps)
  | collision => exact hnext h (hevent s.collide_pathKeeps)
  | guardTimerExpiry => exact hnext h (hevent s.expireGuard_pathKeeps)
  | dwellTimerExpiry => exact hnext h (hevent s.expireDwell_pathKeeps)
  | silenceTimerExpiry => exact hnext h (hevent s.expireSilence_pathKeeps)
  | frameMarkDetected =>
    change execFrameMarkDetected s = _ at h
    unfold execFrameMarkDetected at h
    split at h
    · exact hnext h (.of_rgt (by simp) rfl)
    · exact hnext h (hevent s.detectMark_pathKeeps)
  | headerReceived bytes => exact hnext h (hevent (s.receiveHeader_pathKeeps bytes))
  | frameEnd rest =>
    change execFrameEnd rest s = _ at h
    unfold execFrameEnd at h
    split at h
    · exact hnext h (.of_rgt (by simp) rfl)
    · exact hnext h (hevent (s.receiveEnd_pathKeeps rest))
  | retrainTimerExpiry => exact hnext h (hevent s.expireRetrain_pathKeeps)
  | helloTimerExpiry => exact hnext h (hevent s.expireHello_pathKeeps)
  | replyGuardExpiry => exact hnext h (hevent (s.expireTrainingGuard_pathKeeps _ _))
  | startGuardExpiry => exact hnext h (hevent (s.expireTrainingGuard_pathKeeps _ _))
  | trainingTimerExpiry => exact hnext h (hevent s.expireTraining_pathKeeps)
  | nop t => exact hnext h (State.transaction_pathStep _ _ _ _ fun _ u => .refl u)
  | portIdent t => exact hnext h (State.transaction_pathStep _ _ _ _ fun _ u => .refl u)
  | regionSet t => exact hnext h (State.transaction_pathStep _ _ _ _ fun p u => u.regionSet_keepsPath p)
  | regionEnable t => exact hnext h (State.transaction_pathStep _ _ _ _ fun p u => u.regionEnable_keepsPath p)
  | regionDisable t => exact hnext h (State.transaction_pathStep _ _ _ _ fun p u => u.regionDisable_keepsPath p)
  | regionResync t => exact hnext h (State.transaction_pathStep _ _ _ _ fun p u => u.regionResync_keepsPath p)
  | regionMode t => exact hnext h (State.transaction_pathStep _ _ _ _ fun p u => u.regionMode_keepsPath p)
  | regionQuery t =>
    exact hnext h (State.transaction_pathStep _ _ _ _ fun p u => withRegion_keepsPath p fun _ => .refl u)
  | linkSet t => exact hnext h (State.transaction_pathStep _ _ _ _ fun p u => u.linkSet_keepsPath p)
  | linkEnable t => exact hnext h (State.transaction_pathStep _ _ _ _ fun _ u => u.linkEnable_keepsPath)
  | linkDisable t =>
    exact hnext h (State.transaction_pathStep _ _ _ _ fun _ u => State.PathKeeps.of_parts (by simp))
  | linkRenew t => exact hnext h (State.transaction_pathStep _ _ _ _ fun _ u => u.linkRenew_pathKeeps)
  | linkQuery t => exact hnext h (State.transaction_pathStep _ _ _ _ fun _ u => .refl u)
  | journalSet t => exact hnext h (State.transaction_pathStep _ _ _ _ fun p u => u.journalSet_keepsPath p)
  | journalQuery t => exact hnext h (State.transaction_pathStep _ _ _ _ fun _ u => .refl u)
  | eventQuery t => exact hnext h (State.transaction_pathStep _ _ _ _ fun _ u => .refl u)
  | eventAck t =>
    exact hnext h (State.transaction_pathStep _ _ _ _ fun _ _ =>
      State.PathStep.of_rgt ⟨⟨rfl, rfl, rfl, rfl, rfl⟩, rfl, rfl⟩ rfl)
  | eventEnable t =>
    exact hnext h (State.transaction_pathStep _ _ _ _ fun _ _ =>
      State.PathStep.of_rgt ⟨⟨rfl, rfl, rfl, rfl, rfl⟩, rfl, rfl⟩ rfl)
  | counterQuery t =>
    refine hnext h (State.transaction_pathStep _ _ _ _ fun p u => ?_)
    split
    · trivial
    · exact .refl u
  | counterZero t =>
    refine hnext h (State.transaction_pathStep _ _ _ _ fun p u => ?_)
    split
    · exact u.zeroAll_pathStep
    · split
      · trivial
      · exact u.zeroCounter_pathStep _
  | undefinedRequest t =>
    change execUndefinedRequest t s = _ at h
    unfold execUndefinedRequest at h
    split at h
    · exact hnext h (.refl s)
    · split at h
      · exact hnext h (s.shiftOut_pathStep _ _)
      · split at h
        · exact hnext h (.refl s)
        · exact hnext h ((s.shiftOut_pathStep _ _).trans (State.answer_pathStep _ _ _))
  | resetRelease =>
    change execResetRelease s = _ at h
    unfold execResetRelease at h
    split at h
    · exact hnext h (State.PathKeeps.settled (.of_parts ⟨rfl, rfl, rfl, rfl, rfl⟩))
    · exact hnext h (.refl s)

theorem step_pathStep (s t : State) (h : step s = .next t) : s.PathStep t := by
  unfold step at h
  split at h
  · cases h
    unfold State.tick
    split
    · exact .refl s
    · exact .of_rgt ⟨⟨rfl, rfl, rfl, rfl, rfl⟩, rfl, rfl⟩ rfl
  · next c rest _ =>
    have hpopped : s.PathStep { s with pending := rest } := .of_rgt ⟨⟨rfl, rfl, rfl, rfl, rfl⟩, rfl, rfl⟩ rfl
    exact hpopped.trans (exec_pathStep c _ t h)

/-- Settles O59: every operation moves a tag from one place to another or leaves it where it is, entries come and go
with their internal tags, responses are formed whenever a hold changes, and the reactions check the STALL wait. -/
theorem everyStepKeepsTheMemoryPathLaws : Obligations.EveryStepKeepsTheMemoryPathLaws := by
  intro s t h
  obtain ⟨⟨hwaiting, hport, htags⟩, hstall⟩ := step_pathStep s t h
  refine ⟨hwaiting, fun hd => ⟨hport hd, fun hs => ?_, hstall⟩⟩
  rw [State.tagLaw_iff] at hs ⊢
  exact htags hd hs

end Sys2Proof.Machine

namespace Sys2Proof.Machine

/-! ### What the reactions leave alone (R19, R22, R81, R114, R143, R159) -/

/-- Acceptance of presented requests leaves the responses, HB_RST and the stall timer (R19). -/
theorem State.acceptPresented_upi_keeps (s : State) :
    s.acceptPresented.upi.responses = s.upi.responses ∧ s.acceptPresented.upi.sent = s.upi.sent ∧
      s.acceptPresented.upi.hostReset = s.upi.hostReset ∧ s.acceptPresented.upi.stall = s.upi.stall :=
  s.upi.acceptFrom_keeps s.upi.presented

/-- The check of the STALL wait changes the stall timer alone of UPI (R22). -/
theorem State.stallCheck_upi (s : State) : s.stallCheck.upi = { s.upi with stall := s.stallCheck.upi.stall } := by
  unfold State.stallCheck
  split
  · rfl
  · split
    · rfl
    · split
      · rw [State.stallActions_upi]
      · rfl

/-- The end of a dwell changes the link state alone of LNC (R114). -/
theorem State.dwellCheck_lnc (s : State) : s.dwellCheck.lnc = { s.lnc with link := s.dwellCheck.lnc.link } := by
  unfold State.dwellCheck
  split
  · split <;> rfl
  · rfl

/-- A training frame that starts changes the link state alone of LNC, and leaves the pending NAK (R159). -/
theorem State.sendWanted_lnc (s : State) :
    s.sendWanted.lnc = { s.lnc with link := s.sendWanted.lnc.link } ∧
      s.sendWanted.ftx.pendingNak = s.ftx.pendingNak := by
  unfold State.sendWanted
  split
  · split
    · split <;> exact ⟨rfl, rfl⟩
    · exact ⟨rfl, rfl⟩
  · exact ⟨rfl, rfl⟩

/-- UPI after an event: what is accepted, and the stall timer. -/
theorem State.settle_upi (s : State) :
    s.settle.upi = { s.acceptPresented.upi with stall := s.acceptPresented.stallCheck.upi.stall } := by
  simp only [State.settle, State.sendWanted_upi, State.dwellCheck_upi, State.sweepTake_upi, State.applyRun_upi]
  exact s.acceptPresented.stallCheck_upi

/-- LNC after an event: the link state alone has changed. -/
theorem State.settle_lnc (s : State) : s.settle.lnc = { s.lnc with link := s.settle.lnc.link } := by
  simp only [State.settle]
  rw [(State.sendWanted_lnc _).1, State.dwellCheck_lnc]
  simp

/-- Settles O5: each block is read through the six reactions, none of which writes it. -/
theorem settleLeavesTheseBlocks : Obligations.SettleLeavesTheseBlocks := by
  intro s
  obtain ⟨hresponses, hsent, hreset, -⟩ := s.acceptPresented_upi_keeps
  have hupi := s.settle_upi
  have hlnc := s.settle_lnc
  have hnak : s.settle.ftx.pendingNak = s.ftx.pendingNak := by
    simp only [State.settle, (State.sendWanted_lnc _).2]
    simp
  refine ⟨by simp [State.settle], by simp [State.settle], by simp [State.settle], by simp [State.settle],
    by simp [State.settle], by simp [State.settle], by simp [State.settle], ?_, ?_, ?_, ?_, ?_, ?_, ?_, ?_, ?_, ?_,
    hnak⟩
  · rw [hupi]; exact hresponses
  · rw [hupi]; exact hsent
  · rw [hupi]; exact hreset
  all_goals rw [hlnc]

/-! ### Acceptance (R19, R20) -/

theorem State.acceptPresented_nil {s : State} (h : s.upi.presented = []) : s.acceptPresented = s := by
  unfold State.acceptPresented
  rw [h, Upi.acceptFrom, ← h]

/-- A request that cannot be accepted holds back itself and those behind it (R19). -/
theorem State.acceptPresented_blocked {s : State} {r : UpRequest} {rs : List UpRequest}
    (hp : s.upi.presented = r :: rs) (ha : s.upi.accepts r = false) : s.acceptPresented = s := by
  unfold State.acceptPresented
  rw [hp, Upi.acceptFrom_blocked _ _ _ ha, ← hp]

/-- Acceptance reads the presented requests before it replaces them. -/
theorem Upi.acceptFrom_presented (l ps : List UpRequest) (u : Upi) :
    Upi.acceptFrom l { u with presented := ps } = u.acceptFrom l := by
  induction l generalizing u with
  | nil => rfl
  | cons r l ih =>
    simp only [Upi.acceptFrom]
    have haccepts : Upi.accepts { u with presented := ps } r = u.accepts r := rfl
    rw [haccepts]
    split
    · exact ih (u.accept r)
    · rfl

/-- An acceptable request is accepted, and then those behind it are looked at (R19). -/
theorem State.acceptPresented_cons {s : State} {r : UpRequest} {rs : List UpRequest}
    (hp : s.upi.presented = r :: rs) (ha : s.upi.accepts r = true) :
    s.acceptPresented = State.acceptPresented { s with upi := { s.upi with
      presented := rs, intake := s.upi.intake ++ [r], inFlight := s.upi.inFlight ++ [r.tag] } } := by
  unfold State.acceptPresented
  rw [hp, Upi.acceptFrom, if_pos ha]
  exact congrArg (fun u => { s with upi := u }) (Upi.acceptFrom_presented rs rs (s.upi.accept r)).symm

theorem Upi.accepts_false_iff (u : Upi) (r : UpRequest) :
    u.accepts r = false ↔ 8 ≤ u.intake.length ∨ r.tag ∈ u.inFlight ∨ u.hostReset = true := by
  rw [← Bool.not_eq_true, Upi.accepts_iff, not_and_or, not_and_or, not_lt, not_not, Bool.not_eq_false]

/-! ### Records finished at issue (R143, R144, R147) -/

/-- APL finishes a record at issue when it is VOID or no region holds its page (R143). -/
def State.finishes (s : State) (r : ApplyRec) : Bool :=
  decide (r.kind = .void) || decide (s.lookupTarget r.remoteAddr = none)

/-- UNMAPPED is counted and APPLY_UNMAPPED raised (R144). -/
def Mgp.unmapped (m : Mgp) : Mgp := (m.count .unmapped).raise .applyUnmapped

/-- What a finished record adds to the events, nothing if it is VOID (R144). -/
def ApplyRec.finishMgp (r : ApplyRec) (m : Mgp) : Mgp := if r.kind = .void then m else m.unmapped

/-- A record to be finished leaves the issue point as DONE (R144). -/
theorem State.finishAtIssue_some {s : State} {rec : ApplyRec} (hrec : s.apl.atIssue = some rec)
    (hf : s.finishes rec = true) :
    s.finishAtIssue = { s with apl := s.apl.passIssue .done, mgp := rec.finishMgp s.mgp } := by
  simp only [State.finishes, Bool.or_eq_true, decide_eq_true_eq] at hf
  by_cases hv : rec.kind = .void
  · simp [State.finishAtIssue, State.classifyIssue, ApplyRec.finishMgp, hrec, hv]
  · simp [State.finishAtIssue, State.classifyIssue, ApplyRec.finishMgp, Mgp.unmapped, hrec, hv, hf.resolve_left hv,
      State.raise, State.count]

/-- A mapped record stays at the issue point for APL to issue (R143, R145). -/
theorem State.finishAtIssue_mapped {s : State} {rec : ApplyRec} (hrec : s.apl.atIssue = some rec)
    (hf : s.finishes rec = false) : s.finishAtIssue = s := by
  simp only [State.finishes, Bool.or_eq_false_iff, decide_eq_false_iff_not] at hf
  obtain ⟨x, hx⟩ := Option.ne_none_iff_exists'.1 hf.2
  simp [State.finishAtIssue, State.classifyIssue, hrec, hf.1, hx]

theorem State.finishAtIssue_empty {s : State} (hrec : s.apl.atIssue = none) : s.finishAtIssue = s := by
  simp [State.finishAtIssue, State.classifyIssue, hrec]

theorem finishRun_of_fixed {s : State} (h : s.finishAtIssue = s) (n : Nat) : finishRun n s = s := by
  induction n with
  | zero => rfl
  | succ n ih => rw [finishRun, h, ih]

/-- One more application in front is one more behind. -/
theorem natRepeat_comm {α : Type} (f : α → α) (n : Nat) (a : α) : Nat.repeat f n (f a) = f (Nat.repeat f n a) := by
  induction n with
  | zero => rfl
  | succ n ih => exact congrArg f ih

/-- The record at the issue point is the first of those behind the issued ones (R141, R143). -/
theorem State.atIssue_of_split {s : State} {before waiting : List ApplyRec} (hlaw : s.applyLaw = true)
    (hq : s.apl.queue = before ++ waiting) (hi : s.apl.issued = before.length) : s.apl.atIssue = waiting.head? := by
  have hget := State.atIssue_eq hlaw
  change s.apl.atIssue = s.apl.queue[s.apl.issued]? at hget
  rw [hget, hq, hi, List.getElem?_append_right (le_refl _), Nat.sub_self, List.head?_eq_getElem?]

/-- A record passed at the issue point is the last of the issued ones then (R144, R145). -/
theorem State.passIssue_split {s : State} {before after : List ApplyRec} {rec : ApplyRec} (st : ApplyState)
    (hlaw : s.applyLaw = true) (hq : s.apl.queue = before ++ rec :: after) (hi : s.apl.issued = before.length) :
    (s.apl.passIssue st).queue = before ++ [{ rec with state := st }] ++ after ∧
      (s.apl.passIssue st).issued = (before ++ [{ rec with state := st }]).length := by
  obtain ⟨hqueue, hissue, -⟩ := (State.applyLaw_iff s).1 hlaw
  obtain ⟨before', after', hq', hlen, hseq, -, hb, ha, -⟩ :=
    hqueue.split hissue (rec := rec) (State.atIssue_of_split hlaw hq hi)
  obtain ⟨rfl, htail⟩ := List.append_inj (hq'.symm.trans hq) (hlen.trans hi)
  obtain rfl := (List.cons.inj htail).2
  have hrecords : s.apl.queue.length ≤ 512 := hqueue.records
  have hle := hissue.issued
  refine ⟨by rw [Apl.passIssue_queue st hq hseq hb ha]; simp, ?_⟩
  rw [Apl.passIssue_issued st (by omega), hi, List.length_append, List.length_singleton]

/-- The state once the records `finished` behind `before` have left the issue point, with `rest` behind them. -/
def State.finished (s : State) (before finished rest : List ApplyRec) : State :=
  { s with
    apl := { s.apl with
      queue := before ++ (finished.map fun r => { r with state := .done }) ++ rest
      issue := s.apl.issue + BitVec.ofNat 32 finished.length }
    mgp := Nat.repeat Mgp.unmapped (finished.countP fun r => decide (r.kind ≠ .void)) s.mgp }

theorem State.finished_nil {s : State} {before rest : List ApplyRec} (hq : s.apl.queue = before ++ rest) :
    s.finished before [] rest = s := by
  simp [State.finished, ← hq, Nat.repeat]

/-- One more record at the front of those that leave (R144). -/
theorem State.finished_cons (s : State) (before finished rest : List ApplyRec) (rec : ApplyRec) :
    State.finished { s with apl := s.apl.passIssue .done, mgp := rec.finishMgp s.mgp }
        (before ++ [{ rec with state := .done }]) finished rest =
      s.finished before (rec :: finished) rest := by
  have hissue : s.apl.issue + 1#32 + BitVec.ofNat 32 finished.length =
      s.apl.issue + BitVec.ofNat 32 (finished.length + 1) := by
    rw [BitVec.ofNat_add, BitVec.add_assoc, BitVec.add_comm 1#32]
  have hmgp : Nat.repeat Mgp.unmapped (finished.countP fun r => decide (r.kind ≠ .void)) (rec.finishMgp s.mgp) =
      Nat.repeat Mgp.unmapped ((rec :: finished).countP fun r => decide (r.kind ≠ .void)) s.mgp := by
    by_cases hv : rec.kind = .void
    · simp [ApplyRec.finishMgp, hv]
    · rw [ApplyRec.finishMgp, if_neg hv, List.countP_cons_of_pos (by simpa using hv), natRepeat_comm]
      rfl
  simp only [State.finished, hmgp]
  simp [Apl.passIssue, hissue]

/-- The run of records finished at issue, from any point of it on (R143, R144). -/
theorem finishRun_eq (waiting : List ApplyRec) {n : Nat} (hn : waiting.length ≤ n) {s : State}
    {before : List ApplyRec} (hlaw : s.applyLaw = true) (hq : s.apl.queue = before ++ waiting)
    (hi : s.apl.issued = before.length) :
    finishRun n s = s.finished before (waiting.takeWhile s.finishes)
      (waiting.drop (waiting.takeWhile s.finishes).length) := by
  induction waiting generalizing n s before with
  | nil =>
    rw [finishRun_of_fixed (State.finishAtIssue_empty (State.atIssue_of_split hlaw hq hi))]
    exact (State.finished_nil hq).symm
  | cons rec after ih =>
    have hrec : s.apl.atIssue = some rec := State.atIssue_of_split hlaw hq hi
    cases hf : s.finishes rec with
    | false =>
      rw [finishRun_of_fixed (State.finishAtIssue_mapped hrec hf), List.takeWhile_cons_of_neg (by simp [hf])]
      exact (State.finished_nil hq).symm
    | true =>
      obtain ⟨m, rfl⟩ : ∃ m, n = m + 1 := Nat.exists_eq_add_one.2 (by simp at hn; omega)
      have hstep := State.finishAtIssue_some hrec hf
      have hlaw' := s.finishAtIssue_applyLaw hlaw
      obtain ⟨hq', hi'⟩ := State.passIssue_split .done hlaw hq hi
      rw [hstep] at hlaw'
      rw [finishRun, hstep, ih (by simpa using hn) hlaw' hq' hi', State.finished_cons,
        List.takeWhile_cons_of_pos hf, List.length_cons, List.drop_succ_cons]
      rfl

/-- What APL does after an event: records finished at issue, then the advance of A (R143, R144, R147). -/
theorem State.applyRun_eq {s : State} (hlaw : s.applyLaw = true) :
    let waiting := s.apl.queue.drop s.apl.issued
    let finished := waiting.takeWhile s.finishes
    let t := s.finished (s.apl.queue.take s.apl.issued) finished (waiting.drop finished.length)
    s.applyRun = { t with apl := t.apl.advance } := by
  have hissued := ((State.applyLaw_iff s).1 hlaw).issue.issued
  have hrun := finishRun_eq (s.apl.queue.drop s.apl.issued) (n := s.apl.queue.length)
    (by rw [List.length_drop]; omega) hlaw (List.take_append_drop _ _).symm (by rw [List.length_take]; omega)
  simp only [State.applyRun, hrun]

/-- With no record to finish and none DONE at the front, APL does nothing (R143, R147). -/
theorem State.applyRun_idle {s : State} (hv : s.classifyIssue ≠ .void) (hu : s.classifyIssue ≠ .unmapped)
    (hd : ∀ r rs, s.apl.queue = r :: rs → r.state ≠ .done) : s.applyRun = s := by
  have hfixed : s.finishAtIssue = s := by
    unfold State.finishAtIssue
    split
    · next h => exact absurd h hv
    · next h => exact absurd h hu
    · rfl
    · rfl
  have hrun : s.apl.queue.takeWhile (fun r => decide (r.state = .done)) = [] := by
    cases hq : s.apl.queue with
    | nil => rfl
    | cons r rs => exact List.takeWhile_cons_of_neg (by simpa using hd r rs hq)
  simp [State.applyRun, finishRun_of_fixed hfixed, Apl.advance, hrun]

/-! ### The take of a queued region, the dwell and the training frame (R81, R114, R159) -/

theorem State.sweepTake_idle {s : State} (h : s.swp.engine ≠ .idle ∨ s.swp.queue = [] ∨ s.linkUp = false) :
    s.sweepTake = s := by
  unfold State.sweepTake
  split
  · next he hq =>
    rcases h with h | h | h
    · exact absurd he h
    · rw [h] at hq; cases hq
    · rw [if_neg (by simp [h])]
  · rfl

theorem State.dwellCheck_idle {s : State}
    (h : ∀ u, s.lnc.link = .up u → u.sub = .hold → u.dwell ≠ none → s.somethingToSend = false) :
    s.dwellCheck = s := by
  unfold State.dwellCheck
  split
  · next u hu =>
    refine if_neg fun ⟨hhold, hdwell, hsend⟩ => ?_
    rw [h u hu hhold (Option.isSome_iff_ne_none.1 hdwell)] at hsend
    cases hsend
  · rfl

theorem State.sendWanted_idle {s : State}
    (h : ∀ t, s.lnc.link = .training t → t.want = none ∨ s.lineIdle = false) : s.sendWanted = s := by
  unfold State.sendWanted
  split
  · next t ht =>
    rcases h t ht with hw | hbusy
    · simp [hw]
    · simp [hbusy]
  · rfl

/-- The law of the STALL wait leaves nothing for its check to do (R22). -/
theorem State.stallCheck_idle {s : State} (h : s.stallLaw = true) : s.stallCheck = s := by
  unfold State.stallCheck
  split
  · rfl
  · next x hx =>
    have hrun : s.upi.stall.any (fun t => !t.expired) = true := by simpa [State.stallLaw, hx] using h
    cases hs : s.upi.stall with
    | none => simp [hs] at hrun
    | some d =>
      rw [hs, Option.any_some, Bool.not_eq_true'] at hrun
      simp [hrun]

/-- Settles O6: each reaction by its cases, the run of finished records by induction over those waiting. -/
theorem settleIsItsSixReactions : Obligations.SettleIsItsSixReactions := by
  refine ⟨fun _ => rfl, fun s => ⟨State.acceptPresented_nil, fun r rs hp => ⟨fun hroom hfresh hreset => ?_,
    fun hblocked => ?_⟩⟩, fun s hlaw => ?_, fun s => ⟨fun x rest he hq hup => ?_, State.sweepTake_idle⟩,
    fun s => ⟨fun u hu hhold hdwell hsend => ?_, State.dwellCheck_idle⟩, ?_⟩
  · exact State.acceptPresented_cons hp ((Upi.accepts_iff _ _).2 ⟨hroom, hfresh, hreset⟩)
  · exact State.acceptPresented_blocked hp ((Upi.accepts_false_iff _ _).2 hblocked)
  · exact State.applyRun_eq hlaw
  · simp only [State.sweepTake, he, hq, hup, if_true]
    rfl
  · simp only [State.dwellCheck, hu]
    rw [if_pos ⟨hhold, Option.isSome_iff_ne_none.2 hdwell, hsend⟩]
    rfl
  · intro s haccept hstall hv hu hdone hsweep hdwell hwant
    have haccepted : s.acceptPresented = s := by
      cases hp : s.upi.presented with
      | nil => exact State.acceptPresented_nil hp
      | cons r rs => exact State.acceptPresented_blocked hp (haccept r rs hp)
    have hswept : s.swp.engine ≠ .idle ∨ s.swp.queue = [] ∨ s.linkUp = false := or_left_comm.1 hsweep
    rw [State.settle, haccepted, State.stallCheck_idle hstall, State.applyRun_idle hv hu hdone,
      State.sweepTake_idle hswept, State.dwellCheck_idle hdwell, State.sendWanted_idle hwant]

/-! ### The request the bus presents (R19, R20) -/

/-- A blocked request is looked at again after the next event (R19). -/
theorem State.settle_blocked {s : State} {r : UpRequest} {rs : List UpRequest} (hp : s.upi.presented = r :: rs)
    (ha : s.upi.accepts r = false) : s.settle.upi.presented = r :: rs ∧ s.settle.upi.intake = s.upi.intake ∧
      s.settle.upi.inFlight = s.upi.inFlight := by
  rw [State.settle_upi, State.acceptPresented_blocked hp ha]
  exact ⟨hp, rfl, rfl⟩

theorem exec_upstreamRequest {s : State} (r : UpRequest) (hr : s.inReset = false) :
    exec (.upstreamRequest r) s =
      .next (State.settle { s with upi := { s.upi with presented := s.upi.presented ++ [r] } }) :=
  congrArg Host.Outcome.next (State.event_some some _ _ hr rfl)

/-- Settles O7: the request joins those presented, and acceptance looks at the first of them. -/
theorem upstreamRequestIsAcceptedOrWaits : Obligations.UpstreamRequestIsAcceptedOrWaits := by
  intro r s hr
  refine ⟨fun hp hroom hfresh hreset => ?_, fun hp hblocked => ?_, fun p ps hp hblocked => ?_⟩
  · have hpresented : s.upi.presented ++ [r] = [r] := by rw [hp]; rfl
    have haccepted := State.acceptPresented_cons (s := { s with upi := { s.upi with presented := [r] } }) rfl
      ((Upi.accepts_iff _ r).2 ⟨hroom, hfresh, hreset⟩)
    rw [exec_upstreamRequest r hr, hpresented, State.settle, haccepted, ← hp]
    rfl
  · have hpresented : s.upi.presented ++ [r] = [r] := by rw [hp]; rfl
    exact ⟨_, exec_upstreamRequest r hr,
      State.settle_blocked hpresented ((Upi.accepts_false_iff _ _).2 hblocked)⟩
  · have hpresented : s.upi.presented ++ [r] = p :: (ps ++ [r]) := by rw [hp]; rfl
    exact ⟨_, exec_upstreamRequest r hr,
      State.settle_blocked hpresented ((Upi.accepts_false_iff _ _).2 hblocked)⟩

end Sys2Proof.Machine

namespace Sys2Proof.Machine

/-! ### RESET (R35, R167) -/

/-- While RESET is asserted the management port takes no transaction (R167). -/
theorem State.transaction_inReset (t : Transaction) (len : Nat) (run : List Byte → State → Verdict) {s : State}
    (h : s.inReset = true) : s.transaction t len run = s := by
  simp [State.transaction, h]

/-- Settles O4: while RESET is asserted every event and every transaction leaves the state, and the commands of the
lines set their levels. -/
theorem resetFromItsAssertionToItsRelease : Obligations.ResetFromItsAssertionToItsRelease := by
  refine ⟨fun s => rfl, fun c s h hreset hrelease => ?_, fun s h => ?_, fun s h => ?_⟩
  · have hevent : ∀ f, (Host.Outcome.next (s.event f) : Host.Outcome State Fault Refusal) = .next s :=
      fun f => congrArg _ (State.event_inReset f s h)
    have htransaction : ∀ t len run,
        (Host.Outcome.next (s.transaction t len run) : Host.Outcome State Fault Refusal) = .next s :=
      fun t len run => congrArg _ (State.transaction_inReset t len run h)
    cases c with
    | reset => exact absurd rfl hreset
    | resetRelease => exact absurd rfl hrelease
    | upstreamRequest r => exact congrArg Host.Outcome.next (State.event_inReset some _ h)
    | hostBusResetRelease => exact congrArg Host.Outcome.next (State.event_inReset some _ h)
    | hostBusReset => exact if_pos h
    | frameMarkDetected => exact if_pos h
    | frameEnd rest => exact if_pos h
    | undefinedRequest t => exact if_pos (by simp [h])
    | malformedHead | upGrant _ | aplGrant _ | swpGrant _ | downstreamResponse _ _ _ | upstreamResponse _
    | stallTimerExpiry | holdDeadlineExpiry _ | frameOpportunity | frameCompleted | collision | guardTimerExpiry
    | dwellTimerExpiry | silenceTimerExpiry | headerReceived _ | retrainTimerExpiry | helloTimerExpiry
    | replyGuardExpiry | startGuardExpiry | trainingTimerExpiry => exact hevent _
    | nop _ | portIdent _ | regionSet _ | regionEnable _ | regionDisable _ | regionResync _ | regionMode _
    | regionQuery _ | linkSet _ | linkEnable _ | linkDisable _ | linkRenew _ | linkQuery _ | journalSet _
    | journalQuery _ | eventQuery _ | eventAck _ | eventEnable _ | counterQuery _ | counterZero _ =>
      exact htransaction _ _ _
  · exact if_pos h
  · exact if_neg (by simp [h])

/-! ### The upstream port (R20, R32) -/

theorem exec_malformedHead {s t : State} (hr : s.inReset = false) (h : s.answerMalformed = some t) :
    exec .malformedHead s = .next t.settle :=
  congrArg Host.Outcome.next (State.event_some _ s t hr h)

/-- The response found for a tag is the only one with it. -/
theorem find_response {l : List UpResponse} {p : UpResponse} (hp : p ∈ l) (hnodup : (l.map UpResponse.tag).Nodup) :
    l.find? (fun q => decide (q.tag = p.tag)) = some p := by
  cases hf : l.find? (fun q => decide (q.tag = p.tag)) with
  | none => simpa using List.find?_eq_none.1 hf p hp
  | some q =>
    have htag : q.tag = p.tag := by simpa using List.find?_some hf
    rw [List.inj_on_of_nodup_map hnodup (List.mem_of_find?_eq_some hf) hp htag]

/-- Settles O8: the head is answered if it is malformed, and the response with a tag is the one found. -/
theorem malformedHeadsAndReadyResponsesLeave : Obligations.MalformedHeadsAndReadyResponsesLeave := by
  refine ⟨fun s r rest hr hin => ⟨fun hm => ?_, fun hm => ?_⟩, fun s p hr hp hnodup => ?_⟩
  · have hanswer : s.answerMalformed = some (s.popHead.respond r.tag .fault (faultData r.body)) := by
      simp [State.answerMalformed, hin, hm]
    rw [exec_malformedHead hr hanswer, State.popHead_eq hin]
    rfl
  · have hnone : s.answerMalformed = none := by simp [State.answerMalformed, hin, hm]
    exact congrArg Host.Outcome.next (State.event_none _ s hnone)
  · have hsend : s.sendResponse p.tag = some { s with upi := { s.upi with
        responses := s.upi.responses.filter fun q => decide (q.tag ≠ p.tag)
        inFlight := s.upi.inFlight.filter fun g => decide (g ≠ p.tag)
        sent := some p } } := by
      simp only [State.sendResponse, find_response hp hnodup]
    exact congrArg Host.Outcome.next (State.event_some _ s _ hr hsend)

/-! ### The arbiter (R21, R24, R25, R82, R145) -/

theorem State.upReady_iff (s : State) : s.upReady = true ↔ ∃ r rest, s.upi.intake = r :: rest ∧ malformed r = false ∧
    s.dnp.charged .up < 40 ∧ s.stallOf r = none := by
  unfold State.upReady State.stallRegion
  cases s.upi.intake with
  | nil => simp
  | cons r rest => simp [and_assoc]

theorem State.aplReady_iff (s : State) :
    s.aplReady = true ↔ (∃ rec x, s.classifyIssue = .mapped rec x) ∧ s.dnp.charged .apl < 4 := by
  unfold State.aplReady
  cases s.classifyIssue <;> simp

theorem Jnl.reserveFits_iff (j : Jnl) : j.reserveFits = true ↔
    j.records.length + (j.reserveDesc + 1) ≤ 2048 ∧ j.bytes + (j.reserveBytes + 256) ≤ 131072 := by
  rw [Jnl.reserveFits, decide_eq_true_iff, add_assoc, add_assoc]

theorem State.swpReady_iff (s : State) : s.swpReady = true ↔ ∃ c, s.swp.engine = .reading c ∧
    c.nextChunk < c.endAddr ∧ s.linkUp = true ∧ (s.region c.region).state = .resyncing ∧ s.dnp.charged .swp < 4 ∧
    s.jnl.records.length + (s.jnl.reserveDesc + 1) ≤ 2048 ∧ s.jnl.bytes + (s.jnl.reserveBytes + 256) ≤ 131072 := by
  unfold State.swpReady
  cases s.swp.engine with
  | reading c => simp [Jnl.reserveFits_iff, and_assoc]
  | idle => simp
  | draining c => simp

/-- The rotation from each requester on (R25). -/
theorem State.arbiter_eq (s : State) : s.arbiter = match s.dnp.rotation with
    | .swp => if s.ready .up then some .up else if s.ready .apl then some .apl
        else if s.ready .swp then some .swp else none
    | .up => if s.ready .apl then some .apl else if s.ready .swp then some .swp
        else if s.ready .up then some .up else none
    | .apl => if s.ready .swp then some .swp else if s.ready .up then some .up
        else if s.ready .apl then some .apl else none := by
  unfold State.arbiter
  cases s.dnp.rotation <;> rfl

/-- Settles O9: the rotation by its pointer, each requester's readiness by what it has to issue. -/
theorem arbiterFollowsTheRotation : Obligations.ArbiterFollowsTheRotation := by
  refine ⟨fun d => ⟨⟨?_, ?_, ?_⟩, d.tagFree_iff⟩, fun s => ⟨s.arbiter_eq, s.upReady_iff, s.aplReady_iff,
    s.swpReady_iff⟩⟩
  all_goals
    rw [Dnp.charged, List.countP_eq_length_filter]
    refine congrArg List.length (List.filter_congr fun e _ => ?_)
    cases e.owner <;> rfl

/-! ### The grants to APL and SWP (R27, R45, R83, R145) -/

/-- Settles O16: the grant passes the record at the issue point and issues its write. -/
theorem aplGrantIssuesTheRecord : Obligations.AplGrantIssuesTheRecord := by
  intro s itag rec x hr harb hfree hclass
  have hgrant : s.grantApl itag = some (State.issue .apl itag (.apl rec.seq) rec.remoteAddr (.write rec.writeBytes)
      { s with apl := { s.apl.passIssue .inFlight with
        inFlight := s.apl.inFlight ++ [⟨itag, rec.seq, x, false⟩] } }) := by
    simp [State.grantApl, harb, hfree, hclass]
  exact congrArg Host.Outcome.next (State.event_some _ s _ hr hgrant)

/-- Settles O17: the grant appends the chunk's record, which changes the journal and the events of the water marks
alone, and issues its read. -/
theorem swpGrantReadsTheChunk : Obligations.SwpGrantReadsTheChunk := by
  intro s itag c hr harb hfree he addr changed
  have hgrant : s.grantSwp itag = some (State.issue .swp itag (.swp s.jnl.nextSeq) addr (.read 256)
      { s with
        jnl := { changed.jnl with nextSeq := s.jnl.nextSeq + 1 }
        mgp := changed.mgp
        swp := { s.swp with engine := .reading (c.granted s.jnl.nextSeq) } }) := by
    have happend : s.appendRecord (sweepRecord s.jnl.nextSeq c.region addr
        (remoteOf addr (s.region c.region).fields.displacement)) =
        { s with jnl := { changed.jnl with nextSeq := s.jnl.nextSeq + 1 }, mgp := changed.mgp } := by
      rw [State.appendRecord, State.setRecords_frame _ s s rfl rfl]
      rfl
    simp only [State.grantSwp, harb, hfree, he, and_self, if_true]
    rw [happend]
  exact congrArg Host.Outcome.next (State.event_some _ s _ hr hgrant)

end Sys2Proof.Machine

namespace Sys2Proof.Machine

/-! ### A response to UP (R28 to R31, R33, R75) -/

/-- The status that answers a transaction HLD does not hold: under FAIL an uncaptured SYNC write's is FAULT (R75). -/
def UpPath.answerStatus (path : UpPath) (st : BusStatus) : BusStatus :=
  match path with
  | .uncapturedSync .fail => .fault
  | _ => st

/-- The data that answers it: a READ's bytes, 0x00 on FAULT (R29). -/
def UpPath.answerData (path : UpPath) (st : BusStatus) (data : List Byte) : List Byte :=
  match path, st with
  | .read n, .okay => data.take n
  | .read n, .fault => List.replicate n 0
  | _, _ => []

/-- A transaction that HLD does not hold is answered after what is raised for it (R29 to R31, R75). -/
theorem State.upAnswer_eq {path : UpPath} (hpath : path ≠ .captured true) (tag : Tag) (st : BusStatus)
    (data : List Byte) (s : State) :
    s.upAnswer tag path st data =
      (s.upAbandoned path st).respond tag (path.answerStatus st) (path.answerData st data) := by
  cases path with
  | read n => cases st <;> rfl
  | plain => rfl
  | uncapturedSync a => cases a <;> rfl
  | captured held =>
    cases held with
    | false => rfl
    | true => exact absurd rfl hpath

/-- What every response to UP may raise: LOCAL_FAULT, for a captured write's FAULT (R33). -/
theorem State.upAbandoned_eq (path : UpPath) (st : BusStatus) (s : State) :
    ((st = .fault ∧ ∃ held, path = .captured held) → s.upAbandoned path st = s.raise .localFault) ∧
      (¬(st = .fault ∧ ∃ held, path = .captured held) → s.upAbandoned path st = s) := by
  refine ⟨?_, fun h => ?_⟩
  · rintro ⟨rfl, held, rfl⟩
    rfl
  · cases path with
    | captured held =>
      cases st with
      | okay => rfl
      | fault => exact absurd ⟨rfl, held, rfl⟩ h
    | _ => rfl

/-- The frame of what a response to UP raises. -/
theorem State.upAbandoned_frame (path : UpPath) (st : BusStatus) (s : State) :
    s.upAbandoned path st = { s with mgp := (s.upAbandoned path st).mgp } := by
  by_cases h : st = .fault ∧ ∃ held, path = .captured held
  · rw [(s.upAbandoned_eq path st).1 h]; rfl
  · rw [(s.upAbandoned_eq path st).2 h]

/-- Settles O18: what is raised does not depend on the answer, and an abandoned entry has none. -/
theorem downstreamResponseToUp : Obligations.DownstreamResponseToUp := by
  intro s itag st data tag path ab hr hfind hheld faulted
  have hmgp := (s.entryTaken itag).upAbandoned_eq path st
  refine ⟨_, exec_downstreamResponse st data hr hfind, ?_⟩
  cases ab with
  | true =>
    have hdeliver : (s.entryTaken itag).deliver ⟨itag, .up tag path, true⟩ st data.toList =
        (s.entryTaken itag).upAbandoned path st := rfl
    rw [hdeliver, State.upAbandoned_frame]
    refine ⟨rfl, by simp, fun h => ?_, fun h => ?_, rfl, rfl, rfl, rfl, rfl, rfl, rfl, rfl, rfl⟩
    · rw [hmgp.1 h]; rfl
    · rw [hmgp.2 h]; rfl
  | false =>
    have hpath : path ≠ .captured true := fun h => Bool.false_ne_true (hheld true h rfl)
    have hdeliver : (s.entryTaken itag).deliver ⟨itag, .up tag path, false⟩ st data.toList =
        (s.entryTaken itag).upAnswer tag path st data.toList := rfl
    rw [hdeliver, State.upAnswer_eq hpath, State.upAbandoned_frame]
    refine ⟨rfl, rfl, fun h => ?_, fun h => ?_, rfl, rfl, rfl, rfl, rfl, rfl, rfl, rfl, rfl⟩
    · rw [hmgp.1 h]; rfl
    · rw [hmgp.2 h]; rfl

/-! ### A response to a held write (R28, R31, R64, R65) -/

/-- The response that a local status fixes for a waiting hold (the table of R64). -/
theorem Hold.verdict_localStatus (k : Hold) (st : BusStatus) :
    { k with localStatus := some st }.verdict =
      if decide (st = .fault) || decide (k.state ≠ .openHold) then
        some (if st = .okay ∧ k.state ≠ .failed then .okay else .fault) else none := by
  rcases k with ⟨_, _, _, _, _, state, _⟩
  cases st <;> cases state <;> rfl

/-- A local status answers the holds with the tag that it fixes the response of (R64, R65). -/
theorem State.holdLocalStatus_eq {s : State} (tag : Tag) (st : BusStatus)
    (hv : ∀ k ∈ s.hld.holds, k.verdict = none) :
    let answered : Hold → Bool := fun k =>
      decide (k.tag = tag) && (decide (st = .fault) || decide (k.state ≠ .openHold))
    s.holdLocalStatus tag st = { s with
      hld := ⟨(s.hld.holds.map fun k => if k.tag = tag then { k with localStatus := some st } else k).filter
        fun k => !answered k⟩
      upi := { s.upi with responses := s.upi.responses ++ (s.hld.holds.filter answered).map fun k =>
        ⟨k.tag, if st = .okay ∧ k.state ≠ .failed then .okay else .fault, []⟩ } } := by
  intro answered
  have hchange := State.formResponses_mapHolds (s := s) (a := answered)
    (f := fun k => if k.tag = tag then { k with localStatus := some st } else k)
    (st := fun k => if st = .okay ∧ k.state ≠ .failed then .okay else .fault) (fun k hk => ?_)
    (fun k => by split <;> rfl)
  · rw [State.holdLocalStatus, hchange, List.filter_map]
    have hanswered : ((fun k => !answered k) ∘ fun k : Hold =>
        if k.tag = tag then { k with localStatus := some st } else k) = fun k => !answered k := by
      funext k
      dsimp only [Function.comp]
      split <;> rfl
    rw [hanswered]
  · by_cases ht : k.tag = tag
    · refine (congrArg Hold.verdict (if_pos ht)).trans ((k.verdict_localStatus st).trans ?_)
      simp only [answered, ht, decide_true, Bool.true_and]
    · simpa [answered, ht] using hv k hk

/-- Settles O19: LOCAL_FAULT is raised on a FAULT, and then the table of R64 is read for the hold with the tag. -/
theorem downstreamResponseToAHold : Obligations.DownstreamResponseToAHold := by
  refine ⟨Hold.verdict_eq_none_iff, fun s itag st data tag hr hfind hv => ?_⟩
  refine ⟨_, exec_downstreamResponse st data hr hfind, ?_⟩
  have hdeliver : (s.entryTaken itag).deliver ⟨itag, .up tag (.captured true), false⟩ st data.toList =
      ((s.entryTaken itag).localFault st).holdLocalStatus tag st := rfl
  have hlocal : (s.entryTaken itag).localFault st =
      { s.entryTaken itag with mgp := ((s.entryTaken itag).localFault st).mgp } := by cases st <;> rfl
  rw [hdeliver, hlocal, State.holdLocalStatus_eq]
  · exact ⟨rfl, rfl, rfl, by cases st <;> rfl, rfl, rfl, rfl, rfl, rfl, rfl, rfl, rfl⟩
  · exact hv

/-! ### A response to an apply write, or to none (R28, R146, R150) -/

/-- Settles O20: no entry is found, or the in-flight entry with the tag, whose completion is counted. -/
theorem downstreamResponseToAplOrToNone : Obligations.DownstreamResponseToAplOrToNone := by
  refine ⟨fun s itag st data hnone => ?_, fun s itag st data q ab e hr hfind hflight => ?_⟩
  · have hfind : s.dnp.outstanding.find? (fun e => decide (e.itag = itag)) = none :=
      List.find?_eq_none.2 fun e he => by simpa using hnone e he
    have htake : s.takeDownstream itag st data.toList = none := by simp [State.takeDownstream, hfind]
    exact congrArg Host.Outcome.next (State.event_none _ s htake)
  · have hflight' : (s.entryTaken itag).apl.inFlight.find? (fun f => decide (f.itag = itag)) = some e := hflight
    have hdeliver : (s.entryTaken itag).deliver ⟨itag, .apl q, ab⟩ st data.toList =
        (s.entryTaken itag).applyAnswer itag st := rfl
    rw [exec_downstreamResponse st data hr hfind, hdeliver]
    unfold State.applyAnswer
    rw [hflight']
    cases st <;> rfl

/-! ### Host bus reset (R34, R73) -/

/-- Settles O23: the assertion clears the upstream side, and the release sets the level of the line. -/
theorem hostBusResetAndItsRelease : Obligations.HostBusResetAndItsRelease := by
  refine fun s hr => ⟨fun hlow => ?_, ?_⟩
  · have hevent : (if s.upi.hostReset then none else some s.hostBusClear) = some s.hostBusClear := by rw [hlow]; rfl
    have hexec : execHostBusReset s = .next s.hostBusClear.settle := by
      rw [execHostBusReset, if_neg (by simp [hr])]
      exact congrArg Host.Outcome.next (State.event_some _ s _ hr hevent)
    exact hexec
  · exact congrArg Host.Outcome.next
      (State.event_some some { s with upi := { s.upi with hostReset := false } } _ hr rfl)

end Sys2Proof.Machine

namespace Sys2Proof.Machine

/-! ### The laws of the journal as facts (R38, R39, R41, R55, R102) -/

theorem noneSent_iff (l : List Record) : noneSent l = true ↔ ∀ r ∈ l, r.state ≠ .sent := by
  simp [noneSent]

/-- The SENT records are the oldest when nothing SENT stands behind a record that is not. -/
theorem sentFirst_iff (l : List Record) :
    sentFirst l = true ↔ l.Pairwise fun a b => b.state = .sent → a.state = .sent := by
  induction l with
  | nil => simp [sentFirst]
  | cons r l ih =>
    rw [sentFirst, List.pairwise_cons]
    by_cases hr : r.state = .sent
    · simp [hr, ih]
    · rw [if_neg hr, noneSent_iff]
      refine ⟨fun h => ⟨fun b hb hs => absurd hs (h b hb), ?_⟩, fun h b hb hs => hr (h.1 b hb hs)⟩
      exact List.pairwise_of_forall_mem_list fun a _ b hb hs => absurd hs (h b hb)

/-- The SENT records of a list whose oldest part they are: those before the send point, and none from there on. -/
theorem sentFirst_split {l : List Record} (h : sentFirst l = true) :
    (∀ r ∈ l.take (countState .sent l), r.state = .sent) ∧
      ∀ r ∈ l.drop (countState .sent l), r.state ≠ .sent := by
  induction l with
  | nil => simp
  | cons r l ih =>
    rw [sentFirst] at h
    by_cases hr : r.state = .sent
    · rw [if_pos hr] at h
      have hcount : countState .sent (r :: l) = countState .sent l + 1 := by simp [countState, hr]
      rw [hcount, List.take_succ_cons, List.drop_succ_cons]
      exact ⟨by simpa [hr] using (ih h).1, (ih h).2⟩
    · rw [if_neg hr, noneSent_iff] at h
      have hcount : countState .sent (r :: l) = 0 := by
        simpa [countState, hr] using h
      rw [hcount]
      exact ⟨by simp, by simpa [hr] using h⟩

/-- Law 3 as facts (R39, R55). -/
theorem State.sentLaw_iff (s : State) : s.sentLaw = true ↔
    sentFirst s.jnl.records = true ∧ s.jnl.sentCount ≤ s.lnc.params.window ∧
      (s.lnc.link = .disabled → ∀ r ∈ s.jnl.records, r.state ≠ .sent) := by
  simp only [State.sentLaw, Bool.and_eq_true, Bool.or_eq_true, decide_eq_true_eq, noneSent_iff, and_assoc,
    ne_eq, imp_iff_not_or]

theorem Jnl.sendCountsWithin_iff (j : Jnl) : j.sendCountsWithin = true ↔ ∀ r ∈ j.records, r.sendCount ≤ 8 := by
  simp [Jnl.sendCountsWithin]

theorem Jnl.withinLimits_iff (j : Jnl) :
    j.withinLimits = true ↔ j.records.length ≤ 2048 ∧ recordsBytes j.records ≤ 131072 :=
  decide_eq_true_iff

theorem ceil16_mono {m n : Nat} (h : m ≤ n) : ceil16 m ≤ ceil16 n :=
  Nat.mul_le_mul_right 16 (Nat.div_le_div_right (Nat.add_le_add_right h 15))

theorem recordsBytes_append (l m : List Record) : recordsBytes (l ++ m) = recordsBytes l + recordsBytes m := by
  simp [recordsBytes]

theorem countState_append (st : RecordState) (l m : List Record) :
    countState st (l ++ m) = countState st l + countState st m := by
  simp [countState]

/-- A list none of whose records is SENT. -/
theorem sentFirst_of_noneSent {l : List Record} (h : ∀ r ∈ l, r.state ≠ .sent) :
    sentFirst l = true ∧ countState .sent l = 0 :=
  ⟨(sentFirst_iff l).2 (List.pairwise_of_forall_mem_list fun _ _ b hb hs => absurd hs (h b hb)),
    by simpa [countState] using h⟩

/-- A record becomes one with its seq, no longer and sent no more often. -/
structure Record.Fades (r r' : Record) : Prop where
  seq : r'.seq = r.seq
  length : r'.length ≤ r.length
  count : r'.sendCount ≤ r.sendCount

theorem recordsBytes_map_le {f : Record → Record} {l : List Record} (h : ∀ r ∈ l, r.Fades (f r)) :
    recordsBytes (l.map f) ≤ recordsBytes l := by
  unfold recordsBytes
  rw [List.map_map]
  exact List.sum_le_sum fun r hr => ceil16_mono (h r hr).length

theorem countState_map {f : Record → Record} {l : List Record} (st : RecordState)
    (h : ∀ r ∈ l, (f r).state = st ↔ r.state = st) : countState st (l.map f) = countState st l := by
  unfold countState
  rw [List.countP_map]
  exact List.countP_congr fun r hr => by simpa using h r hr

theorem sentFirst_map {f : Record → Record} {l : List Record}
    (h : ∀ r ∈ l, (f r).state = .sent ↔ r.state = .sent) : sentFirst (l.map f) = sentFirst l := by
  rw [Bool.eq_iff_iff, sentFirst_iff, sentFirst_iff, List.pairwise_map]
  exact List.Pairwise.iff_of_mem fun {a b} ha hb => by rw [h a ha, h b hb]

/-- The seqs of the newest records of an ordered journal end at next seq - 1 too (R39). -/
theorem seqRun_suffix {q : Seq} {pre l : List Seq}
    (h : seqRun (q - BitVec.ofNat 32 (pre ++ l).length) (pre ++ l) = true) :
    seqRun (q - BitVec.ofNat 32 l.length) l = true := by
  rw [seqRun_append, Bool.and_eq_true] at h
  have hstart : q - BitVec.ofNat 32 (pre ++ l).length + BitVec.ofNat 32 pre.length = q - BitVec.ofNat 32 l.length := by
    rw [List.length_append, BitVec.ofNat_add]
    generalize BitVec.ofNat 32 pre.length = a
    generalize BitVec.ofNat 32 l.length = b
    grind
  rw [← hstart]
  exact h.2

/-- A run that ends at next seq - 1 goes on with next seq (R39, R44). -/
theorem seqRun_extend {q : Seq} {l : List Seq} (h : seqRun (q - BitVec.ofNat 32 l.length) l = true) :
    seqRun (q + 1 - BitVec.ofNat 32 (l.length + 1)) (l ++ [q]) = true := by
  have hstart : q + 1 - BitVec.ofNat 32 (l.length + 1) = q - BitVec.ofNat 32 l.length := by
    rw [BitVec.ofNat_add]
    generalize BitVec.ofNat 32 l.length = n
    grind
  rw [hstart, seqRun_append, h, BitVec.sub_add_cancel]
  simp [seqRun]

/-! ### A take from the send point (R52, R101) -/

theorem takeRecords_seqs (now sent k : Nat) (l : List Record) :
    (takeRecords now sent k l).map Record.seq = l.map Record.seq := by
  have htaken : Record.seq ∘ Record.take now = Record.seq := rfl
  rw [takeRecords, ← List.drop_drop, List.map_append, List.map_append, List.map_map, htaken, ← List.map_append,
    ← List.map_append, List.append_assoc, List.take_append_drop, List.take_append_drop]

/-- A record after a take is one from before it, or one that was taken. -/
theorem mem_takeRecords {now sent k : Nat} {l : List Record} {r : Record} (h : r ∈ takeRecords now sent k l) :
    r ∈ l ∨ ∃ q ∈ (l.drop sent).take k, q.take now = r := by
  simp only [takeRecords, List.mem_append, List.mem_map] at h
  rcases h with (h | h) | h
  · exact .inl (List.mem_of_mem_take h)
  · exact .inr h
  · exact .inl (List.mem_of_mem_drop h)

/-- The records taken at the send point prolong the SENT ones (R39, R52). -/
theorem takeRecords_sentFirst (now k : Nat) {l : List Record} (h : sentFirst l = true) :
    sentFirst (takeRecords now (countState .sent l) k l) = true ∧
      countState .sent (takeRecords now (countState .sent l) k l) ≤ countState .sent l + k := by
  obtain ⟨hbefore, hafter⟩ := sentFirst_split h
  have hfront : ∀ r ∈ l.take (countState .sent l) ++ ((l.drop (countState .sent l)).take k).map (Record.take now),
      r.state = .sent := by
    intro r hr
    rcases List.mem_append.1 hr with hr | hr
    · exact hbefore r hr
    · obtain ⟨q, -, rfl⟩ := List.mem_map.1 hr
      rfl
  have hback : ∀ r ∈ l.drop (countState .sent l + k), r.state ≠ .sent := by
    rw [← List.drop_drop]
    exact fun r hr => hafter r (List.mem_of_mem_drop hr)
  rw [takeRecords]
  constructor
  · rw [sentFirst_iff]
    exact List.pairwise_append.2 ⟨List.pairwise_of_forall_mem_list fun a ha _ _ _ => hfront a ha,
      (sentFirst_iff _).1 (sentFirst_of_noneSent hback).1, fun a ha _ _ _ => hfront a ha⟩
  · rw [countState_append, (sentFirst_of_noneSent hback).2, Nat.add_zero]
    refine List.countP_le_length.trans ?_
    simp only [List.length_append, List.length_take, List.length_map]
    omega

end Sys2Proof.Machine

namespace Sys2Proof.Machine

/-! ### What an operation keeps of the journal's laws -/

/-- The laws 1, 2, 3 and 11 of the journal, each kept on its own. -/
structure State.JournalKept (s t : State) : Prop where
  ordered : s.jnl.ordered = true → t.jnl.ordered = true
  limits : s.jnl.withinLimits = true → t.jnl.withinLimits = true
  sent : s.sentLaw = true → t.sentLaw = true
  counts : s.jnl.sendCountsWithin = true → t.jnl.sendCountsWithin = true

theorem State.JournalKept.refl (s : State) : s.JournalKept s := ⟨id, id, id, id⟩

theorem State.JournalKept.trans {s t u : State} (h : s.JournalKept t) (k : t.JournalKept u) : s.JournalKept u :=
  ⟨k.ordered ∘ h.ordered, k.limits ∘ h.limits, k.sent ∘ h.sent, k.counts ∘ h.counts⟩

/-- What the laws of the journal read of LNC: the window, and whether the link is DISABLED. -/
def Lnc.SendsAs (l l' : Lnc) : Prop := l'.params.window = l.params.window ∧ (l'.link = .disabled → l.link = .disabled)

/-- An operation that leaves the records as they are. -/
theorem State.JournalKept.of_parts {s t : State} (hr : t.jnl.records = s.jnl.records)
    (hn : t.jnl.nextSeq = s.jnl.nextSeq) (hl : s.lnc.SendsAs t.lnc) : s.JournalKept t := by
  refine ⟨fun h => ?_, fun h => ?_, fun h => ?_, fun h => ?_⟩
  · rw [Jnl.ordered, hr, hn]; exact h
  · rw [Jnl.withinLimits_iff, hr, ← Jnl.withinLimits_iff]; exact h
  · rw [State.sentLaw_iff] at h ⊢
    obtain ⟨hfirst, hcount, hdisabled⟩ := h
    rw [Jnl.sentCount, hr, hl.1]
    exact ⟨hfirst, hcount, fun hd => hdisabled (hl.2 hd)⟩
  · rw [Jnl.sendCountsWithin_iff, hr, ← Jnl.sendCountsWithin_iff]; exact h

/-- Laws 1, 2 and 11 when some of the oldest records are freed and the others fade. -/
theorem Jnl.faded {j j' : Jnl} {pre l : List Record} {f : Record → Record} (hj : j.records = pre ++ l)
    (hj' : j'.records = l.map f) (hn : j'.nextSeq = j.nextSeq) (hf : ∀ r ∈ l, r.Fades (f r)) :
    (j.ordered = true → j'.ordered = true) ∧ (j.withinLimits = true → j'.withinLimits = true) ∧
      (j.sendCountsWithin = true → j'.sendCountsWithin = true) := by
  refine ⟨fun h => ?_, fun h => ?_, fun h => ?_⟩
  · have hseqs : (l.map f).map Record.seq = l.map Record.seq := by
      rw [List.map_map]
      exact List.map_congr_left fun r hr => (hf r hr).seq
    rw [Jnl.ordered, hj, List.map_append, ← List.length_map (f := Record.seq), List.map_append] at h
    rw [Jnl.ordered, hj', hn, hseqs, List.length_map, ← List.length_map (f := Record.seq)]
    exact seqRun_suffix h
  · rw [Jnl.withinLimits_iff, hj, List.length_append, recordsBytes_append] at h
    rw [Jnl.withinLimits_iff, hj', List.length_map]
    have := recordsBytes_map_le hf
    omega
  · rw [Jnl.sendCountsWithin_iff] at h ⊢
    rw [hj'] 
    intro r' hr'
    obtain ⟨r, hr, rfl⟩ := List.mem_map.1 hr'
    exact (hf r hr).count.trans (h r (hj ▸ List.mem_append_right pre hr))

/-- Some of the oldest records are freed; the others fade and are SENT if they were (R50, R51, R53). -/
theorem State.JournalKept.of_faded {s t : State} {pre l : List Record} {f : Record → Record}
    (hs : s.jnl.records = pre ++ l) (ht : t.jnl.records = l.map f) (hn : t.jnl.nextSeq = s.jnl.nextSeq)
    (hl : s.lnc.SendsAs t.lnc) (hf : ∀ r ∈ l, r.Fades (f r)) (hsent : ∀ r ∈ l, (f r).state = .sent ↔ r.state = .sent) :
    s.JournalKept t := by
  obtain ⟨hordered, hlimits, hcounts⟩ := Jnl.faded hs ht hn hf
  refine ⟨hordered, hlimits, fun h => ?_, hcounts⟩
  rw [State.sentLaw_iff, Jnl.sentCount, hs, countState_append] at h
  obtain ⟨hfirst, hcount, hdisabled⟩ := h
  rw [State.sentLaw_iff, Jnl.sentCount, ht, sentFirst_map hsent, countState_map _ hsent, hl.1]
  refine ⟨?_, by omega, fun hd r' hr' => ?_⟩
  · rw [sentFirst_iff] at hfirst ⊢
    exact (List.pairwise_append.1 hfirst).2.1
  · obtain ⟨r, hr, rfl⟩ := List.mem_map.1 hr'
    exact fun hf' => hdisabled (hl.2 hd) r (List.mem_append_right pre hr) ((hsent r hr).1 hf')

/-- Some of the oldest records are freed, and none of the others is SENT any more (R54, R55, R57). -/
theorem State.JournalKept.of_reverted {s t : State} {pre l : List Record} {f : Record → Record}
    (hs : s.jnl.records = pre ++ l) (ht : t.jnl.records = l.map f) (hn : t.jnl.nextSeq = s.jnl.nextSeq)
    (hf : ∀ r ∈ l, r.Fades (f r)) (hsent : ∀ r ∈ l, (f r).state ≠ .sent) : s.JournalKept t := by
  obtain ⟨hordered, hlimits, hcounts⟩ := Jnl.faded hs ht hn hf
  have hnone : ∀ r ∈ t.jnl.records, r.state ≠ .sent := by simpa [ht] using hsent
  obtain ⟨hfirst, hzero⟩ := sentFirst_of_noneSent hnone
  refine ⟨hordered, hlimits, fun _ => ?_, hcounts⟩
  rw [State.sentLaw_iff, Jnl.sentCount, hzero]
  exact ⟨hfirst, Nat.zero_le _, fun _ => hnone⟩

/-- A record that is not SENT joins the list with next seq, and the one before it closes (R43 to R46). -/
theorem State.JournalKept.of_appended {s t : State} {rec : Record}
    (ht : t.jnl.records = s.jnl.records.map Record.close ++ [rec]) (hn : t.jnl.nextSeq = s.jnl.nextSeq + 1)
    (hl : s.lnc.SendsAs t.lnc) (hseq : rec.seq = s.jnl.nextSeq) (hstate : rec.state ≠ .sent)
    (hcount : rec.sendCount ≤ 8)
    (hfits : s.jnl.records.length + 1 ≤ 2048 ∧ s.jnl.bytes + ceil16 rec.length ≤ 131072) : s.JournalKept t := by
  have hclose : ∀ r ∈ s.jnl.records, r.close.state = .sent ↔ r.state = .sent := fun _ _ => Iff.rfl
  have hbytes : recordsBytes (s.jnl.records.map Record.close) = s.jnl.bytes := by
    rw [Jnl.bytes, recordsBytes, List.map_map]
    rfl
  refine ⟨fun h => ?_, fun _ => ?_, fun h => ?_, fun h => ?_⟩
  · have hseqs : (s.jnl.records.map Record.close).map Record.seq = s.jnl.records.map Record.seq := by
      rw [List.map_map]
      rfl
    rw [Jnl.ordered, ← List.length_map (f := Record.seq)] at h
    rw [Jnl.ordered, ht, hn, List.length_append, List.length_map, List.length_singleton, List.map_append, hseqs,
      List.map_singleton, hseq, ← List.length_map (f := Record.seq)]
    exact seqRun_extend h
  · rw [Jnl.withinLimits_iff, ht, recordsBytes_append, hbytes, List.length_append, List.length_map]
    exact ⟨hfits.1, by simpa [recordsBytes] using hfits.2⟩
  · rw [State.sentLaw_iff] at h ⊢
    obtain ⟨hfirst, hwindow, hdisabled⟩ := h
    have hrec : countState .sent [rec] = 0 := by simp [countState, hstate]
    rw [Jnl.sentCount, ht, countState_append, countState_map _ hclose, hrec, hl.1, sentFirst_iff]
    refine ⟨List.pairwise_append.2 ⟨?_, List.pairwise_singleton _ _, ?_⟩, hwindow, fun hd r hr => ?_⟩
    · rw [← sentFirst_iff, sentFirst_map hclose]
      exact hfirst
    · simp [hstate]
    · rcases List.mem_append.1 hr with hr | hr
      · obtain ⟨q, hq, rfl⟩ := List.mem_map.1 hr
        exact hdisabled (hl.2 hd) q hq
      · rw [List.mem_singleton.1 hr]
        exact hstate
  · rw [Jnl.sendCountsWithin_iff] at h ⊢
    simp only [ht, List.mem_append, List.mem_map, List.mem_singleton]
    rintro r (⟨q, hq, rfl⟩ | rfl)
    · exact h q hq
    · exact hcount

/-- The newest record grows within the byte limit (R42, R47). -/
theorem State.JournalKept.of_grown {s t : State} {older : List Record} {rec rec' : Record}
    (hs : s.jnl.records = older ++ [rec]) (ht : t.jnl.records = older ++ [rec'])
    (hn : t.jnl.nextSeq = s.jnl.nextSeq) (hl : s.lnc.SendsAs t.lnc) (hseq : rec'.seq = rec.seq)
    (hstate : rec'.state = rec.state) (hcount : rec'.sendCount = rec.sendCount)
    (hfits : recordsBytes (older ++ [rec']) ≤ 131072) : s.JournalKept t := by
  refine ⟨fun h => ?_, fun h => ?_, fun h => ?_, fun h => ?_⟩
  · rw [Jnl.ordered, hs] at h
    rw [Jnl.ordered, ht, hn]
    simpa [hseq] using h
  · rw [Jnl.withinLimits_iff, hs] at h
    rw [Jnl.withinLimits_iff, ht]
    exact ⟨by simpa using h.1, hfits⟩
  · rw [State.sentLaw_iff, Jnl.sentCount, hs, sentFirst_iff] at h
    rw [State.sentLaw_iff, Jnl.sentCount, ht, sentFirst_iff, hl.1]
    obtain ⟨hfirst, hwindow, hdisabled⟩ := h
    refine ⟨?_, ?_, fun hd => ?_⟩
    · simpa [List.pairwise_append, hstate] using hfirst
    · simpa [countState, hstate] using hwindow
    · simpa [or_imp, forall_and, hstate] using hdisabled (hl.2 hd)
  · rw [Jnl.sendCountsWithin_iff] at h ⊢
    simpa [hs, ht, or_imp, forall_and, hcount] using h

/-- The journal is emptied (R35, R56). -/
theorem State.JournalKept.of_emptied {s t : State} (ht : t.jnl.records = []) : s.JournalKept t := by
  refine ⟨fun _ => ?_, fun _ => ?_, fun _ => ?_, fun _ => ?_⟩
  · simp [Jnl.ordered, ht, seqRun]
  · simp [Jnl.withinLimits, Jnl.bytes, recordsBytes, ht]
  · simp [State.sentLaw_iff, Jnl.sentCount, countState, ht, sentFirst]
  · simp [Jnl.sendCountsWithin, ht]

/-- The records a frame takes stand at the send point and become SENT, in the window and none of them sent 8 times
already (R52, R101, R102). -/
theorem State.JournalKept.of_taken {s t : State} {now k : Nat}
    (ht : t.jnl.records = takeRecords now s.jnl.sentCount k s.jnl.records) (hn : t.jnl.nextSeq = s.jnl.nextSeq)
    (hl : s.lnc.SendsAs t.lnc) (hup : t.lnc.link ≠ .disabled)
    (hwindow : 0 < k → s.jnl.sentCount + k ≤ s.lnc.params.window)
    (hcount : ∀ r ∈ (s.jnl.records.drop s.jnl.sentCount).take k, r.sendCount < 8) : s.JournalKept t := by
  refine ⟨fun h => ?_, fun h => ?_, fun h => ?_, fun h => ?_⟩
  · rw [Jnl.ordered, ht, hn, takeRecords_length, takeRecords_seqs]
    exact h
  · rw [Jnl.withinLimits_iff, ht, takeRecords_length, takeRecords_bytes, ← Jnl.withinLimits_iff]
    exact h
  · rw [State.sentLaw_iff] at h ⊢
    obtain ⟨hfirst, hsent, -⟩ := h
    obtain ⟨hfirst', hcount'⟩ := takeRecords_sentFirst now k hfirst
    change sentFirst (takeRecords now s.jnl.sentCount k s.jnl.records) = true at hfirst'
    change countState .sent (takeRecords now s.jnl.sentCount k s.jnl.records) ≤ s.jnl.sentCount + k at hcount'
    rw [← ht] at hfirst' hcount'
    refine ⟨hfirst', ?_, fun hd => absurd hd hup⟩
    rcases Nat.eq_zero_or_pos k with hk | hk
    · rw [hl.1]
      exact hcount'.trans (by simpa [hk] using hsent)
    · rw [hl.1]
      exact hcount'.trans (hwindow hk)
  · rw [Jnl.sendCountsWithin_iff] at h ⊢
    rw [ht]
    intro r hr
    rcases mem_takeRecords hr with hr | ⟨q, hq, rfl⟩
    · exact h r hr
    · exact hcount q hq

end Sys2Proof.Machine

namespace Sys2Proof.Machine

/-! ### What an operation keeps of the sweep's law and of the records' form -/

/-- An entry the sweep reads as another: its state and direction, and whether its fields lie in their ranges. -/
structure Region.StandsAs (e e' : Region) : Prop where
  state : e'.state = e.state
  direction : e'.fields.direction = e.fields.direction
  range : e'.fields.inRange = e.fields.inRange

theorem Region.StandsAs.refl (e : Region) : e.StandsAs e := ⟨rfl, rfl, rfl⟩

/-- Law 7 as facts (R77). -/
theorem State.sweepLaw_iff (s : State) : s.sweepLaw = true ↔
    s.swp.regions.Nodup ∧ (∀ r, r ∈ s.swp.regions ↔ (s.region r).state = .resyncing) ∧
      ∀ r, (s.region r).state = .resyncing → (s.region r).fields.direction = .source := by
  simp only [State.sweepLaw, Bool.and_eq_true, Bool.or_eq_true, decide_eq_true_eq, List.all_eq_true,
    List.mem_finRange, forall_const, forall_and, ne_eq, imp_iff_not_or]

theorem Rgt.inRange_iff (s : State) : s.rgt.inRange = true ↔ ∀ r, (s.region r).fields.inRange = true := by
  simp [Rgt.inRange, State.region]

/-- A sweep reads whole chunks up to an end in the address space (R80). -/
def SweepCtx.Chunked (c : SweepCtx) : Prop :=
  c.nextChunk % 256 = 0 ∧ c.endAddr % 256 = 0 ∧ c.nextChunk ≤ c.endAddr ∧ c.endAddr ≤ 2 ^ 40

theorem State.recordsFormed_iff (s : State) : s.recordsFormed = true ↔
    (∀ r ∈ s.jnl.records, r.formed = true) ∧ ∀ c, s.swp.engine.ctx? = some c → c.Chunked := by
  simp only [State.recordsFormed, Bool.and_eq_true, List.all_eq_true, Option.all_eq_true, decide_eq_true_eq]
  rfl

/-- The sweep's law, the ranges of the table, and the form of the records and of the sweep context where the table is
in range. -/
structure State.SweepKept (s t : State) : Prop where
  law : s.sweepLaw = true → t.sweepLaw = true
  range : s.rgt.inRange = true → t.rgt.inRange = true
  formed : s.rgt.inRange = true → s.recordsFormed = true → t.recordsFormed = true

theorem State.SweepKept.refl (s : State) : s.SweepKept s := ⟨id, id, fun _ => id⟩

theorem State.SweepKept.trans {s t u : State} (h : s.SweepKept t) (k : t.SweepKept u) : s.SweepKept u :=
  ⟨k.law ∘ h.law, k.range ∘ h.range, fun hr hf => k.formed (h.range hr) (h.formed hr hf)⟩

/-- An operation under which entries stand as they did and the same regions are queued and swept. -/
theorem State.SweepKept.of_standing {s t : State} (hregion : ∀ r, (s.region r).StandsAs (t.region r))
    (hswp : t.swp.regions = s.swp.regions)
    (hrec : (∀ r ∈ s.jnl.records, r.formed = true) → ∀ r ∈ t.jnl.records, r.formed = true)
    (hctx : s.rgt.inRange = true → (∀ c, s.swp.engine.ctx? = some c → c.Chunked) →
      ∀ c, t.swp.engine.ctx? = some c → c.Chunked) : s.SweepKept t := by
  refine ⟨fun h => ?_, fun h => ?_, fun hr h => ?_⟩
  · rw [State.sweepLaw_iff] at h ⊢
    simpa only [hswp, (hregion _).state, (hregion _).direction] using h
  · rw [Rgt.inRange_iff] at h ⊢
    exact fun r => (hregion r).range.trans (h r)
  · rw [State.recordsFormed_iff] at h ⊢
    exact ⟨hrec h.1, hctx hr h.2⟩

/-- An operation that leaves table and sweep as they are. -/
theorem State.SweepKept.of_records {s t : State} (hrgt : t.rgt = s.rgt) (hswp : t.swp = s.swp)
    (hrec : (∀ r ∈ s.jnl.records, r.formed = true) → ∀ r ∈ t.jnl.records, r.formed = true) : s.SweepKept t := by
  refine .of_standing (fun r => ?_) (by rw [hswp]) hrec (fun _ h => by rwa [hswp])
  unfold State.region
  rw [hrgt]
  exact .refl _

/-- An entry replaced by one that stands as it did. -/
theorem State.setRegion_sweepKept (s : State) (r : RegionIx) (e : Region) (h : (s.region r).StandsAs e) :
    s.SweepKept (s.setRegion r e) := by
  refine .of_standing (fun q => ?_) rfl id (fun _ h => h)
  rw [State.region_setRegion]
  split
  · next heq => exact heq ▸ h
  · exact .refl _

theorem State.setRegionState_region (s : State) (r q : RegionIx) (st : RegionState) :
    (s.setRegionState r st).region q = if q = r then { s.region r with state := st } else s.region q :=
  s.region_setRegion r q _

/-- A change of an entry's state leaves its fields in range. -/
theorem State.setRegionState_inRange {s : State} (h : s.rgt.inRange = true) (r : RegionIx) (st : RegionState) :
    (s.setRegionState r st).rgt.inRange = true := by
  rw [Rgt.inRange_iff] at h ⊢
  intro q
  rw [State.setRegionState_region]
  split
  · exact h r
  · exact h q

/-- A DISABLED entry replaced by another DISABLED one (R2). -/
theorem State.setRegion_sweepKept_disabled (s : State) (r : RegionIx) (e : Region)
    (hs : (s.region r).state = .disabled) (he : e.state = .disabled) (hrange : e.fields.inRange = true) :
    s.SweepKept (s.setRegion r e) := by
  refine ⟨fun h => ?_, fun h => ?_, fun _ h => h⟩
  · rw [State.sweepLaw_iff] at h ⊢
    obtain ⟨hnodup, hmem, hsource⟩ := h
    refine ⟨hnodup, fun q => ?_, fun q => ?_⟩ <;> rw [State.region_setRegion]
    · split
      · next heq => simpa [he, heq, hs] using hmem r
      · exact hmem q
    · split
      · simp [he]
      · exact hsource q
  · rw [Rgt.inRange_iff] at h ⊢
    intro q
    rw [State.region_setRegion]
    split
    · exact hrange
    · exact h q

/-- The regions queued and swept once one of them is dropped (R79, R91). -/
theorem State.dropSweep_regions (r : RegionIx) (s : State) :
    (s.dropSweep r).swp.regions = s.swp.regions.filter fun q => decide (q ≠ r) := by
  unfold State.dropSweep Swp.regions
  cases hc : s.swp.engine.ctx? with
  | none => simp [hc]
  | some c =>
    by_cases hr : c.region = r
    · simp [hr, SweepEngine.ctx?]
    · simp [hr, hc]

theorem State.dropSweep_ctx {r : RegionIx} {s : State} {c : SweepCtx} (h : (s.dropSweep r).swp.engine.ctx? = some c) :
    s.swp.engine.ctx? = some c := by
  unfold State.dropSweep at h
  dsimp only at h
  split at h
  · cases h
  · exact h

/-- A region leaves RESYNCING, if it was in it, for a state that is not: its index leaves queue and engine
(R9, R11, R79, R91). -/
theorem State.leave_sweepKept (s : State) (r : RegionIx) (st : RegionState) (hst : st ≠ .resyncing) :
    s.SweepKept ((s.setRegionState r st).dropSweep r) := by
  have hregion : ∀ q, ((s.setRegionState r st).dropSweep r).region q =
      if q = r then { s.region r with state := st } else s.region q := fun q =>
    s.setRegionState_region r q _
  refine ⟨fun h => ?_, fun h => ?_, fun _ h => ?_⟩
  · rw [State.sweepLaw_iff] at h ⊢
    obtain ⟨hnodup, hmem, hsource⟩ := h
    have hregions : ((s.setRegionState r st).dropSweep r).swp.regions =
        s.swp.regions.filter fun q => decide (q ≠ r) := State.dropSweep_regions r _
    refine ⟨?_, fun q => ?_, fun q => ?_⟩
    · rw [hregions]
      exact hnodup.filter _
    · rw [hregions, List.mem_filter, hregion, hmem]
      by_cases hq : q = r
      · simp [hq, hst]
      · simp [hq]
    · rw [hregion]
      split
      · exact fun h => absurd h hst
      · exact hsource q
  · exact State.setRegionState_inRange h r _
  · rw [State.recordsFormed_iff] at h ⊢
    exact ⟨h.1, fun c hc => h.2 c (State.dropSweep_ctx hc)⟩

theorem State.diverge_sweepKept (r : RegionIx) (s : State) : s.SweepKept (s.diverge r) := by
  cases hc : (s.region r).capturing with
  | false => rw [s.diverge_idle r hc]; exact .refl s
  | true =>
    rw [s.diverge_live r hc]
    exact (s.leave_sweepKept r .diverged (by decide)).trans (.of_records rfl rfl id)

/-- A SOURCE region that is not in RESYNCING enters it and joins the queue (R8, R78). -/
theorem State.toResyncing_sweepKept (s : State) (r : RegionIx) (hsource : (s.region r).fields.direction = .source)
    (hr : (s.region r).state ≠ .resyncing) : s.SweepKept (s.toResyncing r) := by
  have hregion : ∀ q, (s.toResyncing r).region q =
      if q = r then { s.region r with state := .resyncing } else s.region q := fun q => s.region_setRegion r q _
  have hregions : (s.toResyncing r).swp.regions = s.swp.regions ++ [r] := (List.append_assoc _ _ _).symm
  refine ⟨fun h => ?_, fun h => ?_, fun _ h => h⟩
  · rw [State.sweepLaw_iff] at h ⊢
    obtain ⟨hnodup, hmem, hsourceAll⟩ := h
    have hnot : r ∉ s.swp.regions := fun h => hr ((hmem r).1 h)
    rw [hregions]
    refine ⟨hnodup.append (List.nodup_singleton r) (by simpa using hnot), fun q => ?_, fun q => ?_⟩
    · rw [List.mem_append, List.mem_singleton, hregion, hmem]
      by_cases hq : q = r <;> simp [hq]
    · rw [hregion]
      split
      · exact fun _ => hsource
      · exact hsourceAll q
  · exact State.setRegionState_inRange h r _

theorem State.autoResync_sweepKept (r : RegionIx) (s : State) : s.SweepKept (s.autoResync r) := by
  rw [State.autoResync_eq]
  split
  · next h =>
    simp only [Region.resyncs, Bool.and_eq_true, decide_eq_true_eq] at h
    exact s.toResyncing_sweepKept r h.1.1 (by simp [h.1.2])
  · exact .refl s

/-- A pass over a list each of whose steps keeps the sweep's law. -/
theorem foldl_sweepKept {α : Type} (f : State → α → State) (h : ∀ (t : State) (a : α), t.SweepKept (f t a))
    (l : List α) (s : State) : s.SweepKept (l.foldl f s) := by
  induction l generalizing s with
  | nil => exact .refl s
  | cons a l ih => exact (h s a).trans (ih (f s a))

/-- Queue and engine are cleared when no SOURCE region is in RESYNCING (R90). -/
theorem State.sweepNew_sweepKept {s : State}
    (h : ∀ r, (s.region r).fields.direction = .source → (s.region r).state ≠ .resyncing) : s.SweepKept s.sweepNew := by
  refine ⟨fun hlaw => ?_, id, fun _ hf => ?_⟩
  · obtain ⟨-, -, hsource⟩ := (State.sweepLaw_iff s).1 hlaw
    have hnone : ∀ r, (s.region r).state ≠ .resyncing := fun r hr => h r (hsource r hr) hr
    exact (State.sweepLaw_iff _).2
      ⟨List.nodup_nil, fun r => iff_of_false List.not_mem_nil (hnone r), fun r hr => absurd hr (hnone r)⟩
  · exact (State.recordsFormed_iff _).2 ⟨((State.recordsFormed_iff s).1 hf).1, fun c hc => by cases hc⟩

/-- No SOURCE region is in RESYNCING once every one has diverged (R9). -/
theorem Region.diverged_not_resyncing {e : Region} (h : e.diverged.fields.direction = .source) :
    e.diverged.state ≠ .resyncing := by
  by_cases hc : e.capturing = true
  · simp [Region.diverged, hc]
  · rw [Region.diverged, if_neg hc] at h ⊢
    exact fun hr => hc (e.capturing_iff.2 ⟨h, .inr hr⟩)

/-- The table and the sweep at a NEW decision (R13, R90). -/
theorem State.regionsNew_sweepKept (s : State) : s.SweepKept s.regionsNewStep1.sweepNew.regionsNewStep2 := by
  have hstep : s.SweepKept s.regionsNewStep1 :=
    foldl_sweepKept (fun t r => t.diverge r) (fun t r => t.diverge_sweepKept r) _ s
  have hcleared : s.regionsNewStep1.SweepKept s.regionsNewStep1.sweepNew := by
    refine State.sweepNew_sweepKept fun r => ?_
    rw [State.regionsNewStep1_region]
    exact Region.diverged_not_resyncing
  exact (hstep.trans hcleared).trans
    (foldl_sweepKept (fun t r => t.autoResync r) (fun t r => t.autoResync_sweepKept r) _ _)

/-- The head of the queue is taken into the engine; its fields lie in their ranges (R1, R81). -/
theorem State.sweepTake_sweepKept (s : State) : s.SweepKept s.sweepTake := by
  unfold State.sweepTake
  split
  · next r rest hengine hqueue =>
    split
    · refine .of_standing (fun _ => .refl _) ?_ id fun hrange _ c hc => ?_
      · simp [Swp.regions, hengine, hqueue, SweepEngine.ctx?, SweepCtx.start]
      · cases hc
        obtain ⟨⟨-, -, -, hend⟩, -⟩ := (RegionFields.inRange_iff _).1 ((Rgt.inRange_iff s).1 hrange r)
        simp only [SweepCtx.Chunked, SweepCtx.start, Config.pageBytes]
        omega
    · exact .refl s
  · exact .refl s

/-- The engine lets go of a region that it alone held and that leaves RESYNCING (R10, R86). -/
theorem State.completed_sweepKept {s : State} {c : SweepCtx} (hengine : s.swp.engine.ctx? = some c) :
    s.SweepKept { s.setRegionState c.region .active with swp := { s.swp with engine := .idle } } := by
  have hregions : s.swp.regions = c.region :: s.swp.queue := by simp [Swp.regions, hengine]
  refine ⟨fun h => ?_, fun h => State.setRegionState_inRange h c.region _, fun _ h => ?_⟩
  · rw [State.sweepLaw_iff, hregions, List.nodup_cons] at h
    obtain ⟨⟨hnot, hnodup⟩, hmem, hsource⟩ := h
    refine (State.sweepLaw_iff _).2 ⟨hnodup, fun q => ?_, fun q => ?_⟩
    · change q ∈ s.swp.queue ↔ ((s.setRegionState c.region .active).region q).state = .resyncing
      rw [State.setRegionState_region]
      by_cases hq : q = c.region
      · simp [hq, hnot]
      · rw [if_neg hq, ← hmem, List.mem_cons, or_iff_right hq]
    · change ((s.setRegionState c.region .active).region q).state = .resyncing →
        ((s.setRegionState c.region .active).region q).fields.direction = .source
      rw [State.setRegionState_region]
      split
      · exact nofun
      · exact hsource q
  · exact (State.recordsFormed_iff _).2 ⟨((State.recordsFormed_iff s).1 h).1, fun c hc => by cases hc⟩

/-- Under the sweep's law the region whose sweep an apl_ack completes is in RESYNCING. -/
theorem State.sweepAplAck_sweepKept (p : Seq) (s : State) : s.SweepKept (s.sweepAplAck p) := by
  unfold State.sweepAplAck
  split
  · next c hengine =>
    split
    · have hctx : s.swp.engine.ctx? = some c := by rw [hengine]; rfl
      by_cases hc : (s.region c.region).state = .resyncing
      · rw [if_pos hc]
        exact s.completed_sweepKept hctx |>.trans (.of_records rfl rfl id)
      · rw [if_neg hc]
        refine ⟨fun h => ?_, id, fun _ h => ?_⟩
        · exact absurd ((((State.sweepLaw_iff s).1 h).2.1 c.region).1 (by simp [Swp.regions, hctx])) hc
        · exact (State.recordsFormed_iff _).2 ⟨((State.recordsFormed_iff s).1 h).1, fun c hc => by cases hc⟩
    · exact .refl s
  · exact .refl s

end Sys2Proof.Machine

namespace Sys2Proof.Machine

/-! ### The form of a record as facts (R38) -/

theorem Record.formed_write {r : Record} (h : r.kind = .write) : r.formed = true ↔
    (1 ≤ r.length ∧ r.length ≤ 256 ∧ r.data.length = r.length ∧ r.state ≠ .filling ∧
      pageOffset r.localAddr + r.length ≤ 4096 ∧ pageOffset r.remoteAddr + r.length ≤ 4096) ∧
      (∀ m, r.mask = some m → m.length = r.length) ∧ (r.isOpen = true → r.state = .pending) := by
  simp only [Record.formed, h, Bool.and_eq_true, decide_eq_true_eq, Option.all_eq_true, Bool.or_eq_true,
    Bool.not_eq_true', and_assoc, ← Bool.not_eq_true, imp_iff_not_or]

theorem Record.formed_sweep {r : Record} (h : r.kind = .sweep) : r.formed = true ↔
    r.length = 256 ∧ r.mask = none ∧ r.isOpen = false ∧ r.data.length = (if r.state = .filling then 0 else 256) ∧
      pageOffset r.localAddr + r.length ≤ 4096 ∧ pageOffset r.remoteAddr + r.length ≤ 4096 := by
  simp only [Record.formed, h, decide_eq_true_eq]

theorem Record.formed_void {r : Record} (h : r.kind = .void) : r.formed = true ↔
    r.length = 0 ∧ r.mask = none ∧ r.data = [] ∧ r.isOpen = false ∧ r.state ≠ .filling := by
  simp only [Record.formed, h, decide_eq_true_eq]

/-- A FILLING record is a SWEEP (R45). -/
theorem Record.kind_of_filling {r : Record} (h : r.formed = true) (hs : r.state = .filling) : r.kind = .sweep := by
  cases hk : r.kind with
  | write => exact absurd hs ((Record.formed_write hk).1 h).1.2.2.2.1
  | sweep => rfl
  | void => exact absurd hs ((Record.formed_void hk).1 h).2.2.2.2

/-- An open record is a PENDING WRITE (R46). -/
theorem Record.kind_of_open {r : Record} (h : r.formed = true) (ho : r.isOpen = true) : r.kind = .write := by
  cases hk : r.kind with
  | write => rfl
  | sweep => exact absurd (ho.symm.trans ((Record.formed_sweep hk).1 h).2.2.1) (by decide)
  | void => exact absurd (ho.symm.trans ((Record.formed_void hk).1 h).2.2.2.1) (by decide)

/-- A record that keeps its contents keeps its form in a new state, if it is FILLING as before and PENDING where it
stays open. -/
theorem Record.formed_of_contents {r r' : Record} (h : r.formed = true) (hkind : r'.kind = r.kind)
    (hlen : r'.length = r.length) (hmask : r'.mask = r.mask) (hdata : r'.data = r.data)
    (hlocal : r'.localAddr = r.localAddr) (hremote : r'.remoteAddr = r.remoteAddr)
    (hfill : r'.state = .filling ↔ r.state = .filling)
    (hopen : r'.isOpen = true → r.isOpen = true ∧ (r.state = .pending → r'.state = .pending)) : r'.formed = true := by
  have hclosed : r.isOpen = false → r'.isOpen = false := fun hc => by
    by_contra ho
    simp [(hopen (by simpa using ho)).1] at hc
  cases hk : r.kind with
  | write =>
    rw [Record.formed_write hk] at h
    obtain ⟨⟨h1, h2, h3, h4, h5, h6⟩, hm, ho⟩ := h
    rw [Record.formed_write (hkind.trans hk), hlen, hmask, hdata, hlocal, hremote]
    exact ⟨⟨h1, h2, h3, fun hf => h4 (hfill.1 hf), h5, h6⟩, hm, fun hop => (hopen hop).2 (ho (hopen hop).1)⟩
  | sweep =>
    rw [Record.formed_sweep hk] at h
    obtain ⟨h1, h2, h3, h4, h5⟩ := h
    rw [Record.formed_sweep (hkind.trans hk), hlen, hmask, hdata, hlocal, hremote]
    simp only [hfill]
    exact ⟨h1, h2, hclosed h3, h4, h5⟩
  | void =>
    rw [Record.formed_void hk] at h
    obtain ⟨h1, h2, h3, h4, h5⟩ := h
    rw [Record.formed_void (hkind.trans hk), hlen, hmask, hdata]
    exact ⟨h1, h2, h3, hclosed h4, fun hf => h5 (hfill.1 hf)⟩

/-! ### Records that close, go back, fill and are taken (R46, R50 to R52, R54) -/

theorem Record.close_formed {r : Record} (h : r.formed = true) : r.close.formed = true :=
  r.formed_of_contents h rfl rfl rfl rfl rfl rfl Iff.rfl nofun

theorem Record.revert_formed {r : Record} (h : r.formed = true) : r.revert.formed = true := by
  unfold Record.revert
  split
  · next hs => exact r.formed_of_contents h rfl rfl rfl rfl rfl rfl (by simp [hs]) fun ho => ⟨ho, fun _ => rfl⟩
  · exact h

theorem Record.resumed_formed {r : Record} (h : r.formed = true) : r.resumed.formed = true :=
  r.revert.formed_of_contents (Record.revert_formed h) rfl rfl rfl rfl rfl rfl Iff.rfl fun ho => ⟨ho, id⟩

theorem Record.take_formed {r : Record} (now : Nat) (h : r.formed = true) (hp : r.state = .pending) :
    (r.take now).formed = true :=
  r.formed_of_contents h rfl rfl rfl rfl rfl rfl (by simp [Record.take, hp]) nofun

theorem Record.fill_formed {r : Record} {data : List Byte} (h : r.formed = true) (hs : r.state = .filling)
    (hdata : data.length = 256) : (r.fill data).formed = true := by
  have hk := r.kind_of_filling h hs
  rw [Record.formed_sweep hk] at h
  obtain ⟨hlen, hmask, hopen, -, hpages⟩ := h
  exact (Record.formed_sweep (r := r.fill data) hk).2 ⟨hlen, hmask, hopen, hdata, hpages⟩

theorem Record.toVoid_formed {r : Record} (h : r.formed = true) (hs : r.state = .filling) : r.toVoid.formed = true := by
  rw [Record.formed_sweep (r.kind_of_filling h hs)] at h
  obtain ⟨-, hmask, hopen, -⟩ := h
  exact (Record.formed_void (r := r.toVoid) rfl).2 ⟨rfl, hmask, rfl, hopen, nofun⟩

theorem Record.revert_fades (r : Record) : r.Fades r.revert ∧ r.revert.state ≠ .sent := by
  unfold Record.revert
  split
  · exact ⟨⟨rfl, le_rfl, le_rfl⟩, nofun⟩
  · next h => exact ⟨⟨rfl, le_rfl, le_rfl⟩, h⟩

theorem Record.resumed_fades (r : Record) : r.Fades r.resumed ∧ r.resumed.state ≠ .sent := by
  obtain ⟨⟨hseq, hlen, -⟩, hstate⟩ := r.revert_fades
  exact ⟨⟨hseq, hlen, Nat.zero_le _⟩, hstate⟩

/-! ### New and grown records (R4, R18, R44, R45, R47) -/

/-- The displacement is whole pages: it keeps an address's place in its page (R4). -/
theorem pageOffset_remoteOf (a : Addr) (d : Int) : pageOffset (remoteOf a d) = pageOffset a := by
  have h : ((remoteOf a d).toNat : Int) = ((a.toNat : Int) + d * 4096) % 2 ^ 40 := by
    rw [remoteOf, BitVec.toNat_ofInt, Int.toNat_of_nonneg (Int.emod_nonneg _ (by norm_num))]
    norm_num
  unfold pageOffset Config.pageBytes
  omega

/-- A request that is not malformed covers 1 to 256 bytes in one page (R18). -/
theorem malformed_false_iff (r : UpRequest) : malformed r = false ↔
    1 ≤ bodyLength r.body ∧ bodyLength r.body ≤ 256 ∧ pageOffset r.address + bodyLength r.body ≤ 4096 := by
  simp only [malformed, decide_eq_false_iff_not, not_or, Nat.not_lt, Nat.one_le_iff_ne_zero]

theorem newRecord_formed {a remote : Addr} {bytes : List (Byte × Bool)} (q : Seq) (x : RegionIx)
    (hlen : 1 ≤ bytes.length ∧ bytes.length ≤ 256) (hpage : pageOffset a + bytes.length ≤ 4096)
    (hremote : pageOffset remote = pageOffset a) : (newRecord q x a remote bytes).formed = true := by
  refine (Record.formed_write rfl).2 ⟨⟨hlen.1, hlen.2, by simp [newRecord], nofun, hpage, ?_⟩, ?_, fun _ => rfl⟩
  · simpa only [newRecord, hremote] using hpage
  · intro m hm
    simp only [newRecord] at hm
    split at hm <;> cases hm
    simp [newRecord]

/-- A record grown by a write behind it in its page, at the remote side too (R47). -/
theorem Record.grow_formed {r : Record} {x : RegionIx} {a remote : Addr} {bytes : List (Byte × Bool)}
    (h : r.formed = true) (hc : coalesces r x a remote bytes = true)
    (hremote : pageOffset remote = pageOffset a) : (r.grow bytes).formed = true := by
  simp only [coalesces, Bool.and_eq_true, decide_eq_true_eq, Option.isNone_iff_eq_none, and_assoc] at hc
  obtain ⟨hopen, -, hmask, -, haddr, hraddr, hmax, hpage⟩ := hc
  have hk := r.kind_of_open h hopen
  rw [Record.formed_write hk] at h
  obtain ⟨⟨h1, -, hdata, hstate, -, hrpage⟩, -, hpending⟩ := h
  refine (Record.formed_write (r := r.grow bytes) hk).2
    ⟨⟨h1.trans (Nat.le_add_right _ _), hmax, by simp [Record.grow, hdata], hstate, hpage, ?_⟩, ?_, hpending⟩
  · simp only [Record.grow]
    unfold pageOffset Config.pageBytes at *
    omega
  · intro m hm
    rw [show (r.grow bytes).mask = none from hmask] at hm
    cases hm

/-- The record of a chunk lies in one page, as the chunk does (R45, R83). -/
theorem sweepRecord_formed {c : SweepCtx} (hc : c.Chunked) (q : Seq) (d : Int) :
    (sweepRecord q c.region (BitVec.ofNat 40 c.nextChunk)
      (remoteOf (BitVec.ofNat 40 c.nextChunk) d)).formed = true := by
  obtain ⟨hmod, -⟩ := hc
  have hpage : pageOffset (BitVec.ofNat 40 c.nextChunk) + 256 ≤ 4096 := by
    unfold pageOffset Config.pageBytes
    rw [BitVec.toNat_ofNat]
    omega
  refine (Record.formed_sweep rfl).2 ⟨rfl, rfl, rfl, rfl, hpage, ?_⟩
  simp only [sweepRecord, pageOffset_remoteOf]
  exact hpage

end Sys2Proof.Machine

namespace Sys2Proof.Machine

/-! ### What an operation keeps of all the laws of journal and sweep -/

/-- The laws of the journal, and the sweep's law with the form of the records. -/
structure State.LawsKept (s t : State) : Prop where
  journal : s.JournalKept t
  sweep : s.SweepKept t

theorem State.LawsKept.refl (s : State) : s.LawsKept s := ⟨.refl s, .refl s⟩

theorem State.LawsKept.trans {s t u : State} (h : s.LawsKept t) (k : t.LawsKept u) : s.LawsKept u :=
  ⟨h.journal.trans k.journal, h.sweep.trans k.sweep⟩

/-- An operation that leaves records, table and sweep as they are, and takes no link to DISABLED. -/
theorem State.LawsKept.of_parts {s t : State}
    (h : (t.jnl.records = s.jnl.records ∧ t.jnl.nextSeq = s.jnl.nextSeq ∧ t.swp = s.swp ∧ t.rgt = s.rgt) ∧
      t.lnc.params.window = s.lnc.params.window ∧ (t.lnc.link = .disabled → s.lnc.link = .disabled)) :
    s.LawsKept t := by
  obtain ⟨⟨hrec, hnext, hswp, hrgt⟩, hlnc⟩ := h
  exact ⟨.of_parts hrec hnext hlnc, .of_records hrgt hswp fun h => by rwa [hrec]⟩

/-- An operation on table and sweep that leaves journal and link as they are. -/
theorem State.SweepKept.lawsKept {s t : State} (h : s.SweepKept t) (hj : t.jnl = s.jnl) (hl : t.lnc = s.lnc) :
    s.LawsKept t :=
  ⟨.of_parts (by rw [hj]) (by rw [hj]) (by rw [hl]; exact ⟨rfl, id⟩), h⟩

/-! ### Changes of the record list (R41) -/

@[simp] theorem State.setRecords_records (rs : List Record) (s : State) : (s.setRecords rs).jnl.records = rs := by
  rw [(s.setRecords_keeps rs).1]
@[simp] theorem State.setRecords_nextSeq (rs : List Record) (s : State) :
    (s.setRecords rs).jnl.nextSeq = s.jnl.nextSeq := by
  rw [(s.setRecords_keeps rs).1]
@[simp] theorem State.evalMarks_records (s : State) : s.evalMarks.jnl.records = s.jnl.records := by
  rw [s.evalMarks_keeps.1]
@[simp] theorem State.evalMarks_nextSeq (s : State) : s.evalMarks.jnl.nextSeq = s.jnl.nextSeq := by
  rw [s.evalMarks_keeps.1]

/-- Freeing removes some of the oldest records (R53). -/
theorem freeBefore_append (q : Seq) (l : List Record) : ∃ pre, l = pre ++ freeBefore q l := by
  obtain ⟨pre, hpre⟩ := List.dropWhile_suffix (l := l) fun r => precedes r.seq q
  exact ⟨pre, hpre.symm⟩

/-- Some of the oldest records are freed (R53). -/
theorem State.freed_lawsKept (q : Seq) (s : State) : s.LawsKept (s.setRecords (freeBefore q s.jnl.records)) := by
  obtain ⟨pre, hpre⟩ := freeBefore_append q s.jnl.records
  refine ⟨.of_faded (f := id) hpre (by simp) (by simp) (by simp [Lnc.SendsAs]) (fun _ _ => ⟨rfl, le_rfl, le_rfl⟩)
    fun _ _ => Iff.rfl, .of_records (by simp) (by simp) fun h r hr => h r ?_⟩
  rw [State.setRecords_records] at hr
  rw [hpre]
  exact List.mem_append_right pre hr

/-- Some of the oldest records are freed, and the others are none of them SENT after it (R54, R55, R57). -/
theorem State.LawsKept.of_reverted {s t : State} {f : Record → Record} {pre l : List Record}
    (hs : s.jnl.records = pre ++ l) (ht : t.jnl.records = l.map f) (hn : t.jnl.nextSeq = s.jnl.nextSeq)
    (hswp : t.swp = s.swp) (hrgt : t.rgt = s.rgt) (hfades : ∀ r : Record, r.Fades (f r) ∧ (f r).state ≠ .sent)
    (hformed : ∀ r : Record, r.formed = true → (f r).formed = true) : s.LawsKept t := by
  refine ⟨.of_reverted hs ht hn (fun r _ => (hfades r).1) fun r _ => (hfades r).2,
    .of_records hrgt hswp fun h r' hr' => ?_⟩
  rw [ht] at hr'
  obtain ⟨r, hr, rfl⟩ := List.mem_map.1 hr'
  exact hformed r (h r (by rw [hs]; exact List.mem_append_right pre hr))

theorem State.goBack_lawsKept (q : Seq) (s : State) : s.LawsKept (s.goBack q) := by
  obtain ⟨pre, hpre⟩ := freeBefore_append q s.jnl.records
  exact .of_reverted hpre (by simp [State.goBack]) (by simp [State.goBack]) (by simp) (by simp)
    Record.revert_fades fun _ => Record.revert_formed

theorem State.takeRcvAck_lawsKept (q : Seq) (s : State) : s.LawsKept (s.takeRcvAck q) := by
  unfold State.takeRcvAck
  split
  · exact s.freed_lawsKept q
  · exact .of_parts (by simp)

theorem State.takeNak_lawsKept (q : Seq) (s : State) : s.LawsKept (s.takeNak q) := by
  unfold State.takeNak
  split
  · exact s.goBack_lawsKept q
  · exact .of_parts (by simp)

theorem State.journalResume_lawsKept (e : Seq) (s : State) : s.LawsKept (s.journalResume e) := by
  obtain ⟨pre, hpre⟩ := freeBefore_append e s.jnl.records
  exact .of_reverted hpre (by simp [State.journalResume]) (by simp [State.journalResume]) (by simp) (by simp)
    Record.resumed_fades fun _ => Record.resumed_formed

/-- The entry of the link to DISABLED leaves no record SENT (R55, R154). -/
theorem State.goDisabled_lawsKept (s : State) : s.LawsKept s.goDisabled := by
  unfold State.goDisabled
  split
  · exact .refl s
  all_goals
    exact .of_reverted (pre := []) rfl (by simp [State.revertSent]) (by simp [State.revertSent]) (by simp) (by simp)
      Record.revert_fades fun _ => Record.revert_formed

theorem State.ackCheck_lawsKept (s : State) : s.LawsKept s.ackCheck := by
  unfold State.ackCheck
  split
  · exact .refl s
  · split
    · split
      · exact s.goBack_lawsKept _
      · exact .refl s
    · exact .refl s

/-! ### Sweep records (R50, R51, R83 to R85) -/

/-- The FILLING record with a seq changes and is FILLING no more. -/
theorem State.updateFilling_lawsKept {s t : State} {q : Seq} {f : Record → Record}
    (ht : t = s.setRecords (updateFilling q f s.jnl.records))
    (hf : ∀ r, r.Fades (f r) ∧ (f r).state = .pending)
    (hformed : ∀ r : Record, r.formed = true → r.state = .filling → (f r).formed = true) : s.LawsKept t := by
  subst ht
  refine ⟨.of_faded (pre := []) (f := fun r => if r.seq = q ∧ r.state = .filling then f r else r) rfl
    (by rw [State.setRecords_records]; rfl) (by simp) (by simp [Lnc.SendsAs]) (fun r _ => ?_) fun r _ => ?_,
    .of_records (by simp) (by simp) fun h r' hr' => ?_⟩
  · split
    · exact (hf r).1
    · exact ⟨rfl, le_rfl, le_rfl⟩
  · split
    · next h => simp [(hf r).2, h.2]
    · exact Iff.rfl
  · rw [State.setRecords_records] at hr'
    obtain ⟨r, hr, rfl⟩ := List.mem_map.1 hr'
    split
    · next hfill => exact hformed r (h r hr) hfill.2
    · exact h r hr

theorem State.fillRecord_lawsKept (q : Seq) {data : List Byte} (s : State) (hdata : data.length = 256) :
    s.LawsKept (s.fillRecord q data) :=
  s.updateFilling_lawsKept rfl (fun _ => ⟨⟨rfl, le_rfl, le_rfl⟩, rfl⟩)
    fun _ h hs => Record.fill_formed h hs hdata

theorem State.voidRecord_lawsKept (q : Seq) (s : State) : s.LawsKept (s.voidRecord q) :=
  s.updateFilling_lawsKept rfl (fun _ => ⟨⟨rfl, Nat.zero_le _, le_rfl⟩, rfl⟩) fun _ => Record.toVoid_formed

/-- A sweep goes on with another context for the same region and end (R80). -/
theorem State.engine_sweepKept {s : State} {c c' : SweepCtx} {e : SweepEngine} (hs : s.swp.engine.ctx? = some c)
    (he : e.ctx? = some c') (hregion : c'.region = c.region) (hc : c.Chunked → c'.Chunked) :
    s.SweepKept { s with swp := { s.swp with engine := e } } := by
  refine .of_standing (fun _ => .refl _) ?_ id fun _ h d hd => ?_
  · simp [Swp.regions, hs, he, hregion]
  · change e.ctx? = some d at hd
    rw [he] at hd
    cases hd
    exact hc (h c hs)

theorem SweepCtx.engine_ctx (c : SweepCtx) : c.engine.ctx? = some c := by
  unfold SweepCtx.engine
  split <;> rfl

theorem State.diverge_lawsKept (r : RegionIx) (s : State) : s.LawsKept (s.diverge r) :=
  (s.diverge_sweepKept r).lawsKept (by simp) (by simp)

/-- The response to one of the sweep's own reads (R84, R85). -/
theorem State.ownReadAnswer_lawsKept {s : State} {c : SweepCtx} (q : Seq) (st : BusStatus) {data : List Byte}
    (hc : s.swp.engine = .reading c) (hdata : data.length = 256) : s.LawsKept (s.ownReadAnswer c q st data) := by
  have hctx : s.swp.engine.ctx? = some c := by rw [hc]; rfl
  cases st with
  | okay =>
    refine (s.fillRecord_lawsKept q hdata).trans (State.SweepKept.lawsKept ?_ rfl rfl)
    exact State.engine_sweepKept (c := c) (by simpa using hctx) (c.answered q).engine_ctx rfl id
  | fault =>
    have hvoided : s.LawsKept ((s.voidRecord q).raise .sweepFault) :=
      (s.voidRecord_lawsKept q).trans (.of_parts (by simp))
    have hengine : ((s.voidRecord q).raise .sweepFault).LawsKept { (s.voidRecord q).raise .sweepFault with
        swp := { (s.voidRecord q).swp with engine := .reading (c.answered q) } } :=
      (State.engine_sweepKept (c := c) (c' := c.answered q) (by simpa using hctx) rfl rfl id).lawsKept rfl rfl
    exact (hvoided.trans hengine).trans (State.diverge_lawsKept c.region _)

theorem State.sweepAnswer_lawsKept (q : Seq) (st : BusStatus) {data : List Byte} (s : State)
    (hdata : data.length = 256) : s.LawsKept (s.sweepAnswer q st data) := by
  have hother : s.LawsKept (s.otherReadAnswer q st data) := by
    unfold State.otherReadAnswer
    split
    · exact .refl s
    · exact s.fillRecord_lawsKept q hdata
    · exact (s.voidRecord_lawsKept q).trans (.of_parts (by simp))
  unfold State.sweepAnswer
  split
  · next c hc =>
    split
    · exact State.ownReadAnswer_lawsKept q st hc hdata
    · exact hother
  · exact hother

/-- Appending a record that fits (R42 to R46). -/
theorem State.appendRecord_lawsKept {s : State} {rec : Record} (hseq : rec.seq = s.jnl.nextSeq)
    (hstate : rec.state ≠ .sent) (hcount : rec.sendCount = 0)
    (hfits : s.jnl.records.length + 1 ≤ 2048 ∧ s.jnl.bytes + ceil16 rec.length ≤ 131072)
    (hformed : s.recordsFormed = true → rec.formed = true) : s.LawsKept (s.appendRecord rec) := by
  have hrecords : (s.appendRecord rec).jnl.records = s.jnl.records.map Record.close ++ [rec] := by
    simp [State.appendRecord]
  refine ⟨.of_appended hrecords (by simp [State.appendRecord]) (by simp [Lnc.SendsAs]) hseq hstate (by omega) hfits, ?_⟩
  have hlaw : s.SweepKept { s.appendRecord rec with jnl := s.jnl } := .of_records (by simp) (by simp) id
  refine ⟨hlaw.law, hlaw.range, fun hr h => ?_⟩
  obtain ⟨hrec, hctx⟩ := (State.recordsFormed_iff s).1 h
  refine (State.recordsFormed_iff _).2 ⟨?_, by simpa using hctx⟩
  rw [hrecords]
  simp only [List.mem_append, List.mem_map, List.mem_singleton]
  rintro r (⟨q, hq, rfl⟩ | rfl)
  · exact Record.close_formed (hrec q hq)
  · exact hformed h

/-- The grant of the next chunk, whose record fits beside the reserve (R45, R82, R83). -/
theorem State.grantSwp_lawsKept (itag : ITag) (s t : State) (h : s.grantSwp itag = some t) : s.LawsKept t := by
  unfold State.grantSwp at h
  split at h
  · next hgrant =>
    split at h
    · next c hc =>
      cases h
      have hready := s.arbiter_ready .swp hgrant.1
      rw [State.ready, State.swpReady, hc] at hready
      simp only [Bool.and_eq_true, decide_eq_true_eq, Jnl.reserveFits, Config.journalRecords, Config.journalBytes,
        Config.chunkBytes] at hready
      obtain ⟨⟨⟨⟨hlt, -⟩, -⟩, -⟩, hfits⟩ := hready
      have hctx : s.swp.engine.ctx? = some c := by rw [hc]; rfl
      have happended : s.LawsKept (s.appendRecord (sweepRecord s.jnl.nextSeq c.region (BitVec.ofNat 40 c.nextChunk)
          (remoteOf (BitVec.ofNat 40 c.nextChunk) (s.region c.region).fields.displacement))) := by
        refine State.appendRecord_lawsKept rfl nofun rfl ?_ fun hf =>
          sweepRecord_formed (((State.recordsFormed_iff s).1 hf).2 c hctx) _ _
        have hchunk : ceil16 (sweepRecord s.jnl.nextSeq c.region (BitVec.ofNat 40 c.nextChunk)
          (remoteOf (BitVec.ofNat 40 c.nextChunk) (s.region c.region).fields.displacement)).length = 256 := by
          simp [sweepRecord, ceil16, Config.chunkBytes]
        omega
      have hchunked : c.Chunked → (c.granted s.jnl.nextSeq).Chunked := by
        rintro ⟨hmod, hend, hle, htop⟩
        refine ⟨?_, hend, ?_, htop⟩
        · change (c.nextChunk + 256) % 256 = 0
          omega
        · change c.nextChunk + 256 ≤ c.endAddr
          omega
      refine happended.trans (State.SweepKept.lawsKept ?_ rfl rfl)
      exact (State.engine_sweepKept (c := c) (e := .reading (c.granted s.jnl.nextSeq)) (by simpa using hctx) rfl rfl
        hchunked).trans (.of_records rfl rfl id)
    · cases h
  · cases h

/-! ### Captured writes (R42, R44, R47) -/

/-- A write that fits is captured: it joins the newest record or opens a new one (R42, R44, R47). -/
theorem State.capture_lawsKept {s : State} {x : RegionIx} {a remote : Addr} {bytes : List (Byte × Bool)}
    (hfits : s.jnl.captureFits x a remote bytes = true)
    (hlen : 1 ≤ bytes.length ∧ bytes.length ≤ 256) (hpage : pageOffset a + bytes.length ≤ 4096)
    (hremote : pageOffset remote = pageOffset a) : s.LawsKept (s.capture x a remote bytes) := by
  unfold State.capture
  cases hinto : s.jnl.coalesceInto x a remote bytes with
  | none =>
    simp only [Jnl.captureFits, hinto, decide_eq_true_eq] at hfits
    exact State.appendRecord_lawsKept rfl nofun rfl hfits fun _ => newRecord_formed _ x hlen hpage hremote
  | some rec =>
    simp only [Jnl.captureFits, hinto, decide_eq_true_eq, Config.journalBytes] at hfits
    obtain ⟨hlast, hcoalesces⟩ := Option.filter_eq_some_iff.1 hinto
    obtain ⟨older, holder⟩ := List.getLast?_eq_some_iff.1 hlast
    have hrecords : (s.setRecords (s.jnl.records.dropLast ++ [rec.grow bytes])).jnl.records =
        older ++ [rec.grow bytes] := by simp [holder]
    have hbytes : recordsBytes (older ++ [rec.grow bytes]) ≤ 131072 := by
      have hgrown : ceil16 rec.length ≤ ceil16 (rec.length + bytes.length) := ceil16_mono (Nat.le_add_right _ _)
      rw [Jnl.bytes, holder, recordsBytes_append] at hfits
      rw [recordsBytes_append]
      simp only [recordsBytes, growth, List.map_cons, List.map_nil, List.sum_singleton, Record.grow] at hfits ⊢
      omega
    refine ⟨.of_grown holder hrecords (by simp) (by simp [Lnc.SendsAs]) rfl rfl rfl hbytes,
      .of_records (by simp) (by simp) ?_⟩
    intro h
    rw [hrecords]
    simp only [holder, List.mem_append, List.mem_singleton] at h ⊢
    rintro r (hr | rfl)
    · exact h r (.inl hr)
    · exact Record.grow_formed (h rec (.inr rfl)) hcoalesces hremote

end Sys2Proof.Machine

namespace Sys2Proof.Machine

@[simp] theorem State.setLink_link (l : Link) (s : State) : (s.setLink l).lnc.link = l := rfl

/-! ### The region table's counters and modes (R12, R17, R23, R69) -/

/-- An entry of the table replaced by one that stands as it did. -/
theorem State.setRegion_lawsKept (s : State) (r : RegionIx) (e : Region) (h : (s.region r).StandsAs e) :
    s.LawsKept (s.setRegion r e) :=
  (s.setRegion_sweepKept r e h).lawsKept rfl rfl

theorem State.countCaptured_lawsKept (r : RegionIx) (s : State) : s.LawsKept (s.countCaptured r) :=
  s.setRegion_lawsKept r _ ⟨rfl, rfl, rfl⟩

theorem State.countStray_lawsKept (r : RegionIx) (s : State) : s.LawsKept (s.countStray r) :=
  s.setRegion_lawsKept r _ ⟨rfl, rfl, rfl⟩

theorem State.countApplied_lawsKept (r : RegionIx) (s : State) : s.LawsKept (s.countApplied r) :=
  s.setRegion_lawsKept r _ ⟨rfl, rfl, rfl⟩

theorem State.setMode_lawsKept (r : RegionIx) (m : Mode) (s : State) : s.LawsKept (s.setMode r m) :=
  s.setRegion_lawsKept r _ ⟨rfl, rfl, rfl⟩

theorem State.stallActions_lawsKept (x : RegionIx) (s : State) : s.LawsKept (s.stallActions x) :=
  (State.diverge_lawsKept x s).trans (t := s.diverge x) (.of_parts (by simp [State.stallActions]))

/-! ### The reactions that follow an event -/

theorem State.stallCheck_lawsKept (s : State) : s.LawsKept s.stallCheck := by
  unfold State.stallCheck
  split
  · exact .refl s
  · split
    · exact .of_parts (by simp)
    · split
      · exact s.stallActions_lawsKept _
      · exact .refl s

theorem State.dwellCheck_lawsKept (s : State) : s.LawsKept s.dwellCheck := by
  unfold State.dwellCheck
  split
  · split
    · exact .of_parts (by simp)
    · exact .refl s
  · exact .refl s

theorem State.sendWanted_lawsKept (s : State) : s.LawsKept s.sendWanted := by
  unfold State.sendWanted
  split
  · split
    · split <;> exact .of_parts (by simp [*])
    · exact .refl s
  · exact .refl s

theorem State.settle_lawsKept (s : State) : s.LawsKept s.settle := by
  have hstalled : s.LawsKept s.acceptPresented.stallCheck :=
    .trans (.of_parts (by simp)) (State.stallCheck_lawsKept _)
  have hrun : s.LawsKept s.acceptPresented.stallCheck.applyRun := hstalled.trans (.of_parts (by simp))
  have htaken := hrun.trans ((State.sweepTake_sweepKept _).lawsKept (by simp) (by simp))
  exact (htaken.trans (State.dwellCheck_lawsKept _)).trans (State.sendWanted_lawsKept _)

/-- An event keeps what its effect keeps. -/
theorem State.event_lawsKept {f : State → Option State} {r s : State} (hs : r.LawsKept s)
    (hf : ∀ t, f s = some t → r.LawsKept t) : r.LawsKept (s.event f) := by
  unfold State.event
  split
  · exact hs
  · cases hft : f s with
    | none => exact hs
    | some t => exact (hf t hft).trans t.settle_lawsKept

/-! ### The memory path -/

theorem State.answerMalformed_lawsKept (s t : State) (h : s.answerMalformed = some t) : s.LawsKept t := by
  unfold State.answerMalformed at h
  split at h
  · cases h
  · split at h <;> cases h
    exact .of_parts (by simp)

theorem State.sendResponse_lawsKept (tag : Tag) (s t : State) (h : s.sendResponse tag = some t) : s.LawsKept t := by
  unfold State.sendResponse at h
  split at h <;> cases h
  exact .of_parts (by simp)

/-- A write is captured in a region, with its hold in SYNC mode (R15, R63). -/
theorem State.captureWrite_lawsKept {s : State} {x : RegionIx} {r : UpRequest} {bytes : List (Byte × Bool)}
    (hbody : r.body = .write bytes) (hr : malformed r = false)
    (hfits : s.jnl.captureFits x r.address (remoteOf r.address (s.region x).fields.displacement) bytes = true) :
    s.LawsKept (s.captureWrite x r bytes) := by
  obtain ⟨hmin, hmax, hpage⟩ := (malformed_false_iff r).1 hr
  rw [hbody] at hmin hmax hpage
  have hcaptured := State.capture_lawsKept hfits ⟨hmin, hmax⟩ hpage (pageOffset_remoteOf _ _)
  have hcounted := hcaptured.trans (State.countCaptured_lawsKept x _)
  unfold State.captureWrite
  dsimp only
  split
  · exact hcounted
  · exact hcounted.trans (.of_parts (by simp))

/-- A capture is classed where the record fits (R15, R42). -/
theorem State.classify_capture {s : State} {r : UpRequest} {x : RegionIx} (h : s.classify r = .capture x) :
    ∃ bytes, r.body = .write bytes ∧
      s.jnl.captureFits x r.address (remoteOf r.address (s.region x).fields.displacement) bytes = true := by
  unfold State.classify at h
  split at h
  · cases h
  · next bytes hbody =>
    split at h
    · cases h
    · dsimp only at h
      split at h
      · split at h <;> cases h
      · split at h
        · cases h
        · split at h
          · split at h <;> cases h
            exact ⟨bytes, hbody, ‹_›⟩
          · cases h

theorem State.strayWrite_lawsKept (x : RegionIx) (s : State) : s.LawsKept (s.strayWrite x) :=
  (s.countStray_lawsKept x).trans (t := s.countStray x) (.of_parts (by simp [State.strayWrite]))

/-- What the class of a request that is not malformed does, in a state that classes it as the one before did. -/
theorem State.applyClass_lawsKept {s u : State} {r : UpRequest} (hr : malformed r = false) (hj : u.jnl = s.jnl)
    (hg : u.rgt = s.rgt) : u.LawsKept (u.applyClass (s.classify r) r).1 := by
  cases hc : s.classify r with
  | forward path => exact .refl u
  | capture x =>
    obtain ⟨bytes, hbody, hfits⟩ := State.classify_capture hc
    have hregion : u.region x = s.region x := by rw [State.region, hg]; rfl
    rw [← hj, ← hregion] at hfits
    simp only [State.applyClass, hbody]
    exact State.captureWrite_lawsKept hbody hr hfits
  | noSpace x path => exact State.diverge_lawsKept x u
  | strayPass x => exact u.strayWrite_lawsKept x
  | strayReject x => exact u.strayWrite_lawsKept x

theorem State.grantUp_lawsKept (itag : ITag) (s t : State) (h : s.grantUp itag = some t) : s.LawsKept t := by
  unfold State.grantUp at h
  split at h
  · next hup =>
    obtain ⟨r, rest, hintake, hr, -⟩ := s.arbiter_up hup
    rw [hintake] at h
    dsimp only at h
    have hclass : s.LawsKept (s.popHead.applyClass (s.classify r) r).1 :=
      .trans (t := s.popHead) (.of_parts (by simp)) (State.applyClass_lawsKept hr (by simp) (by simp))
    split at h
    · next heq =>
      rw [heq] at hclass
      split at h <;> cases h
      exact hclass.trans (.of_parts (by simp))
    · next heq =>
      rw [heq] at hclass
      cases h
      exact hclass.trans (.of_parts (by simp))
  · cases h

theorem State.grantApl_lawsKept (itag : ITag) (s t : State) (h : s.grantApl itag = some t) : s.LawsKept t := by
  unfold State.grantApl at h
  split at h
  · split at h <;> cases h
    exact .of_parts (by simp)
  · cases h

/-! ### Responses from memory -/

theorem State.localFault_lawsKept (st : BusStatus) (s : State) : s.LawsKept (s.localFault st) := by
  cases st with
  | okay => exact .refl s
  | fault => exact .of_parts (by simp [State.localFault])

theorem State.upAnswer_lawsKept (tag : Tag) (path : UpPath) (st : BusStatus) (data : List Byte) (s : State) :
    s.LawsKept (s.upAnswer tag path st data) := by
  cases path with
  | captured held =>
    cases held with
    | false => exact (s.localFault_lawsKept st).trans (t := s.localFault st) (.of_parts (by simp [State.upAnswer]))
    | true => exact (s.localFault_lawsKept st).trans (t := s.localFault st) (.of_parts (by simp [State.upAnswer]))
  | _ => exact .of_parts (by simp [State.upAnswer])

theorem State.upAbandoned_lawsKept (path : UpPath) (st : BusStatus) (s : State) :
    s.LawsKept (s.upAbandoned path st) := by
  cases path with
  | captured held => exact s.localFault_lawsKept st
  | _ => exact .refl s

theorem State.applyAnswer_lawsKept (itag : ITag) (st : BusStatus) (s : State) :
    s.LawsKept (s.applyAnswer itag st) := by
  unfold State.applyAnswer
  split
  · exact .refl s
  · next e _ =>
    cases st with
    | okay =>
      exact (s.countApplied_lawsKept e.region).trans (t := s.countApplied e.region)
        (.of_parts (by simp [State.countApply]))
    | fault => exact .of_parts (by simp [State.countApply])

theorem State.takeDownstream_lawsKept (itag : ITag) (st : BusStatus) {data : List Byte} (hdata : data.length = 256)
    (s t : State) (h : s.takeDownstream itag st data = some t) : s.LawsKept t := by
  unfold State.takeDownstream at h
  split at h
  · cases h
  · cases h
    refine .trans (t := s.entryTaken itag) (.of_parts ⟨⟨rfl, rfl, rfl, rfl⟩, rfl, id⟩) ?_
    unfold State.deliver
    split
    · split
      · exact State.upAbandoned_lawsKept _ st _
      · exact State.upAnswer_lawsKept _ _ st data _
    · exact State.applyAnswer_lawsKept _ st _
    · split
      · exact .refl _
      · exact State.sweepAnswer_lawsKept _ st _ (by simp [hdata, Config.chunkBytes])

/-! ### Timers of the memory path -/

theorem State.expireStall_lawsKept (s t : State) (h : s.expireStall = some t) : s.LawsKept t := by
  unfold State.expireStall at h
  split at h
  · cases h
  · split at h
    · cases h
    · dsimp only at h
      split at h <;> cases h
      · exact .of_parts (by simp)
      · exact .trans (.of_parts (by simp)) (State.stallActions_lawsKept _ _)

theorem State.holdDegrade_lawsKept (r : RegionIx) (s : State) : s.LawsKept (s.holdDegrade r) :=
  (s.setMode_lawsKept r .async).trans (t := s.setMode r .async) (.of_parts ⟨⟨rfl, rfl, rfl, rfl⟩, rfl, id⟩)

/-- A hold's expiry changes the mode of a region at most (R67 to R69). -/
theorem State.expireHold_lawsKept (tag : Tag) (s : State) : s.LawsKept (s.expireHold tag) := by
  unfold State.expireHold
  split
  · exact .refl s
  · split
    · dsimp only
      split
      · exact .of_parts (by simp)
      · exact .trans (.of_parts (by simp)) (State.holdDegrade_lawsKept _ _)
    · exact .refl s

theorem State.deadlineExpires_lawsKept (tag : Tag) (s t : State) (h : s.deadlineExpires tag = some t) :
    s.LawsKept t := by
  unfold State.deadlineExpires at h
  split at h
  · cases h
  · split at h <;> cases h
    exact .trans (.of_parts (by simp)) (State.expireHold_lawsKept tag _)

end Sys2Proof.Machine

namespace Sys2Proof.Machine

/-! ### The link (R154, R156) -/

/-- A fallen link is in DOWN or on to TRAINING, not DISABLED (R156). -/
theorem Lnc.fallen_ne_disabled (l : Lnc) (now : Nat) : l.fallen now ≠ .disabled := by
  unfold Lnc.fallen
  split <;> exact nofun

theorem State.setUp_lawsKept (u : Turn) (s : State) : s.LawsKept (s.setLink (.up u)) :=
  .of_parts ⟨⟨rfl, rfl, rfl, rfl⟩, rfl, nofun⟩

theorem State.setTraining_lawsKept (t : Training) (s : State) : s.LawsKept (s.setLink (.training t)) :=
  .of_parts ⟨⟨rfl, rfl, rfl, rfl⟩, rfl, nofun⟩

theorem State.goDown_lawsKept (c : DownCause) (s : State) : s.LawsKept (s.goDown c) := by
  unfold State.goDown
  split
  · exact .of_parts ⟨⟨rfl, rfl, rfl, rfl⟩, rfl, fun h => absurd h (Lnc.fallen_ne_disabled _ _)⟩
  · exact .refl s

/-! ### This node's turns -/

/-- The records of a DATA frame are PENDING ones from the send point, within the window (R52, R101, R103). -/
theorem State.buildData_lawsKept {s : State} (turn : Bool) (hup : s.lnc.link ≠ .disabled)
    (hcount : ∀ r ∈ s.selection, r.sendCount < 8) : s.LawsKept (s.buildData turn) := by
  obtain ⟨hrun, hpending, hbounds⟩ := selectRecords_spec s.lnc.params.window s.jnl.sentCount 0 0 s.jnl.fromSendPoint
  change s.selection = (s.jnl.records.drop s.jnl.sentCount).take s.selection.length at hrun
  have hrecords : (s.buildData turn).jnl.records =
      takeRecords s.now s.jnl.sentCount s.selection.length s.jnl.records := by simp [State.buildData]
  refine ⟨.of_taken hrecords (by simp [State.buildData]) (by simp [Lnc.SendsAs, State.buildData])
    (by simpa [State.buildData] using hup) (fun hk => ?_) (by rwa [← hrun]),
    .of_records (by simp [State.buildData]) (by simp [State.buildData]) fun h r hr => ?_⟩
  · obtain ⟨-, hwindow, -⟩ := hbounds hk
    rwa [Nat.add_zero] at hwindow
  · rw [hrecords] at hr
    rcases mem_takeRecords hr with hr | ⟨q, hq, rfl⟩
    · exact h r hr
    · refine Record.take_formed s.now (h q (List.mem_of_mem_drop (List.mem_of_mem_take hq))) (hpending q ?_)
      change q ∈ s.selection
      rwa [hrun]

theorem State.answerOpportunity_lawsKept {u : Turn} {s : State} (hup : s.lnc.link ≠ .disabled) :
    s.LawsKept (s.answerOpportunity u) := by
  unfold State.answerOpportunity
  dsimp only
  split
  · split
    · exact s.goDown_lawsKept _
    · next hany =>
      exact (State.buildData_lawsKept _ hup (by simpa using hany)).trans (State.setUp_lawsKept _ _)
  · exact .of_parts (by simp)

theorem State.afterFrame_lawsKept (f : TxFrame) (s : State) : s.LawsKept (s.afterFrame f) := by
  unfold State.afterFrame
  split
  · exact s.setUp_lawsKept _
  · split
    · exact s.setTraining_lawsKept _
    · exact .refl s
  · exact .of_parts (by simp [State.goUp])
  · exact .refl s
  · exact .refl s
  · exact .refl s

theorem State.completeFrame_lawsKept (s t : State) (h : s.completeFrame = some t) : s.LawsKept t := by
  unfold State.completeFrame at h
  split at h <;> cases h
  exact .trans (.of_parts (by simp)) (State.afterFrame_lawsKept _ _)

theorem State.collide_lawsKept (s t : State) (h : s.collide = some t) : s.LawsKept t := by
  unfold State.collide at h
  split at h <;> cases h
  have hcounted : ∀ u, s.LawsKept ((s.cutFrame.lineContested.count .collisions).setLink (.up u)) :=
    fun _ => .of_parts (by simp)
  split
  · unfold State.backOff
    split <;> exact (hcounted _).trans (State.setUp_lawsKept _ _)
  · exact (hcounted _).trans (State.goDown_lawsKept _ _)

theorem State.expireGuard_lawsKept (s t : State) (h : s.expireGuard = some t) : s.LawsKept t := by
  unfold State.expireGuard at h
  split at h
  · cases h
  · next u _ =>
    split at h <;> cases h
    next g _ _ =>
    have hchecked : s.LawsKept (s.reach g.due).ackCheck := .trans (.of_parts (by simp)) (State.ackCheck_lawsKept _)
    exact hchecked.trans (State.setUp_lawsKept _ _)

theorem State.expireDwell_lawsKept (s t : State) (h : s.expireDwell = some t) : s.LawsKept t := by
  unfold State.expireDwell at h
  split at h
  · cases h
  · split at h <;> cases h
    exact .of_parts (by simp)

theorem State.expireSilence_lawsKept (s t : State) (h : s.expireSilence = some t) : s.LawsKept t := by
  unfold State.expireSilence at h
  split at h
  · cases h
  · split at h <;> cases h
    have hcounted : ∀ n u, s.LawsKept (((s.reach n).count .missedTurns).setLink (.up u)) :=
      fun _ _ => .of_parts (by simp)
    split
    · exact (hcounted _ _).trans (State.setUp_lawsKept _ _)
    · exact (hcounted _ _).trans (State.goDown_lawsKept _ _)

/-! ### The peer's frames -/

theorem State.lineTaken_lawsKept (s : State) : s.LawsKept s.lineTaken := .of_parts ⟨⟨rfl, rfl, rfl, rfl⟩, rfl, id⟩

theorem State.lineReleased_lawsKept (s : State) : s.LawsKept s.lineReleased :=
  .of_parts ⟨⟨rfl, rfl, rfl, rfl⟩, rfl, id⟩

theorem State.detectMark_lawsKept (s t : State) (h : s.detectMark = some t) : s.LawsKept t := by
  unfold State.detectMark at h
  split at h
  · cases h
  · split at h
    · cases h; exact .of_parts ⟨⟨rfl, rfl, rfl, rfl⟩, rfl, id⟩
    · dsimp only at h
      split at h <;> cases h
      · exact s.lineTaken_lawsKept.trans (.of_parts ⟨⟨rfl, rfl, rfl, rfl⟩, rfl, id⟩)
      · exact s.lineTaken_lawsKept.trans (.of_parts (by simp))
      · exact s.lineTaken_lawsKept
      · exact s.lineTaken_lawsKept

theorem State.headerAck_lawsKept (h : Header) (s : State) : s.LawsKept (s.headerAck h) := by
  unfold State.headerAck
  split
  · exact .trans (.of_parts (by simp)) (State.takeNak_lawsKept _ _)
  · exact s.takeRcvAck_lawsKept _

theorem State.headerTurn_lawsKept (h : Header) (s : State) : s.LawsKept (s.headerTurn h) := by
  unfold State.headerTurn
  split
  · split
    · exact s.setUp_lawsKept _
    · exact .refl s
  · exact .refl s

theorem State.acksOfHeader_lawsKept (h : Header) (s : State) : s.LawsKept (s.acksOfHeader h) := by
  have hconfirmed : s.LawsKept s.confirmSession := .of_parts ⟨⟨rfl, rfl, rfl, rfl⟩, rfl, id⟩
  have hacked := hconfirmed.trans (State.headerAck_lawsKept h _)
  have hheld := hacked.trans (u := (s.confirmSession.headerAck h).holdsAplAck h.aplAck) (.of_parts (by simp))
  have hswept := hheld.trans ((State.sweepAplAck_sweepKept h.aplAck _).lawsKept (by simp) (by simp))
  exact hswept.trans (State.headerTurn_lawsKept h _)

theorem State.actOnHeader_lawsKept (h : Header) (s : State) : s.LawsKept (s.actOnHeader h) := by
  unfold State.actOnHeader
  split
  · split
    · exact s.acksOfHeader_lawsKept h
    · exact s.acksOfHeader_lawsKept h
    · split
      · exact .refl s
      · exact s.goDown_lawsKept _
    · exact .refl s
    · exact .refl s
  · exact .refl s

theorem State.receiveHeader_lawsKept (bytes : List Byte) (s t : State) (h : s.receiveHeader bytes = some t) :
    s.LawsKept t := by
  unfold State.receiveHeader at h
  split at h
  · split at h <;> cases h
    · exact .trans (.of_parts (by simp)) (State.actOnHeader_lawsKept _ _)
    · exact .of_parts (by simp)
  · cases h

/-- The records received go to the apply queue (R130 to R135). -/
theorem State.acceptData_lawsKept (h : Header) (body : List Byte) (s : State) : s.LawsKept (s.acceptData h body) := by
  unfold State.acceptData
  split
  · exact .of_parts (by simp)
  · split
    · exact .of_parts (by simp)
    · unfold State.acceptInOrder State.acceptRecords
      dsimp only
      repeat' split
      all_goals exact .of_parts (by simp)

/-! ### Training -/

theorem State.blocksNew_lawsKept (s : State) : s.LawsKept s.blocksNew := by
  have hholds : s.LawsKept s.holdsNew :=
    List.foldlRecOn _ (fun t (h : Hold) => t.expireHold h.tag) (motive := s.LawsKept) (.refl s)
      fun t ht h _ => ht.trans (t.expireHold_lawsKept h.tag)
  have hregions := hholds.sweep.trans s.holdsNew.regionsNew_sweepKept
  refine ⟨.of_emptied (by rw [State.blocksNew_jnl]), hregions.trans (.of_records ?_ ?_ fun _ => ?_)⟩
  · simp [State.blocksNew]
  · simp [State.blocksNew]
  · rw [State.blocksNew_jnl]
    exact nofun

theorem State.applySession_lawsKept (d : Decision) (e : Seq) (s : State) : s.LawsKept (s.applySession d e) := by
  cases d with
  | newSession =>
    rw [State.applySession_newSession]
    exact .trans (t := s.sessionNew) (.of_parts ⟨⟨rfl, rfl, rfl, rfl⟩, rfl, id⟩) (State.blocksNew_lawsKept _)
  | resume =>
    exact .trans (t := ({ s with lnc := { s.lnc with fresh := false } } : State).count .sessionsResumed)
      (.of_parts ⟨⟨rfl, rfl, rfl, rfl⟩, rfl, id⟩) (State.journalResume_lawsKept e _)

theorem State.recordWindow_lawsKept (w : Nat) (s : State) : s.LawsKept (s.recordWindow w) :=
  .of_parts ⟨⟨rfl, rfl, rfl, rfl⟩, rfl, id⟩

theorem State.takeReply_lawsKept (t : Training) (fresh : Bool) (b : HelloBody) (s : State) :
    s.LawsKept (s.takeReply t fresh b) := by
  have hdecided := (s.recordWindow_lawsKept b.window).trans
    (State.applySession_lawsKept (s.sessionDecision fresh b) b.expected _)
  unfold State.takeReply
  exact hdecided.trans (.of_parts (by simp))

theorem State.helloAtPrimary_lawsKept (t : Training) (h : Header) (b : HelloBody) (s : State) :
    s.LawsKept (s.helloAtPrimary t h b) := by
  unfold State.helloAtPrimary
  split
  · split
    · exact s.takeReply_lawsKept t h.fresh b
    · exact .refl s
  · exact .refl s
  · exact (s.recordWindow_lawsKept b.window).trans (State.goDown_lawsKept _ _)
  · exact .refl s

theorem State.helloAtSecondary_lawsKept (t : Training) (h : Header) (b : HelloBody) (s : State) :
    s.LawsKept (s.helloAtSecondary t h b) := by
  unfold State.helloAtSecondary
  split
  · exact (s.recordWindow_lawsKept b.window).trans (State.setTraining_lawsKept _ _)
  · exact .refl s
  · exact .refl s

theorem State.startAtSecondary_lawsKept (t : Training) (d : Decision) (s : State) :
    s.LawsKept (s.startAtSecondary t d) := by
  unfold State.startAtSecondary
  split
  · next e _ _ => exact (s.applySession_lawsKept d e).trans (.of_parts ⟨⟨rfl, rfl, rfl, rfl⟩, rfl, nofun⟩)
  · exact .refl s

theorem State.trainingFrame_lawsKept (t : Training) (h : Header) (body : List Byte) (s : State) :
    s.LawsKept (s.trainingFrame t h body) := by
  unfold State.trainingFrame
  split
  · split
    · exact .refl s
    · next b _ =>
      split
      · exact s.helloAtPrimary_lawsKept t h b
      · exact s.helloAtPrimary_lawsKept t h b
      · exact s.helloAtSecondary_lawsKept t h b
      · exact s.helloAtSecondary_lawsKept t h b
      · exact s.helloAtSecondary_lawsKept t h b
  · split
    · exact .refl s
    · exact s.startAtSecondary_lawsKept t _
  · exact .refl s
  · exact .refl s
  · exact .refl s

/-! ### The end of a frame -/

theorem State.restartSilence_lawsKept (s : State) : s.LawsKept s.restartSilence := by
  unfold State.restartSilence
  split
  · split
    · exact s.setUp_lawsKept _
    · exact .refl s
  · exact .refl s

theorem State.handover_lawsKept (h : Header) (s : State) : s.LawsKept (s.handover h) := by
  unfold State.handover
  split
  · split
    · exact s.setUp_lawsKept _
    · exact .refl s
  · exact .refl s

theorem State.endOfFrame_lawsKept (h : Header) (rest : List Byte) (s : State) : s.LawsKept (s.endOfFrame h rest) := by
  unfold State.endOfFrame
  split
  · split
    · exact (s.acceptData_lawsKept h rest).trans (State.handover_lawsKept h _)
    · exact s.handover_lawsKept h
    · exact .refl s
    · exact .refl s
    · exact .refl s
  · split
    · exact s.trainingFrame_lawsKept _ h rest
    · exact .refl s
  · exact .refl s
  · exact .refl s

theorem State.lineReturns_lawsKept (s : State) : s.LawsKept s.lineReturns :=
  (s.lineReleased_lawsKept.trans (t := s.lineReleased) (u := { s.lineReleased with frx := { s.frx with rx := none } })
    (.of_parts ⟨⟨rfl, rfl, rfl, rfl⟩, rfl, id⟩)).trans (State.restartSilence_lawsKept _)

theorem State.receiveEnd_lawsKept (rest : List Byte) (s t : State) (h : s.receiveEnd rest = some t) :
    s.LawsKept t := by
  unfold State.receiveEnd at h
  split at h
  · dsimp only at h
    split at h <;> cases h
    · exact s.lineReturns_lawsKept
    · exact s.lineReturns_lawsKept.trans (.of_parts (by simp))
    · exact s.lineReturns_lawsKept
    · exact s.lineReturns_lawsKept.trans (State.endOfFrame_lawsKept _ rest _)
  · unfold State.unheardEnd at h
    split at h <;> cases h
    exact s.lineReleased_lawsKept.trans (State.restartSilence_lawsKept _)

/-! ### Training timers -/

theorem State.expireRetrain_lawsKept (s t : State) (h : s.expireRetrain = some t) : s.LawsKept t := by
  unfold State.expireRetrain at h
  split at h <;> cases h
  exact .trans (t := s.reach _) (.of_parts (by simp)) (State.setTraining_lawsKept _ _)

theorem State.expireHello_lawsKept (s t : State) (h : s.expireHello = some t) : s.LawsKept t := by
  unfold State.expireHello at h
  split at h
  · cases h
  · split at h <;> cases h
    exact .of_parts (by simp)

theorem State.expireTrainingGuard_lawsKept (phase : Phase) (want : TrainFrame) (s t : State)
    (h : s.expireTrainingGuard phase want = some t) : s.LawsKept t := by
  unfold State.expireTrainingGuard at h
  split at h
  · cases h
  · split at h
    · cases h
    · split at h <;> cases h
      exact .of_parts (by simp)

theorem State.expireTraining_lawsKept (s t : State) (h : s.expireTraining = some t) : s.LawsKept t := by
  unfold State.expireTraining at h
  split at h <;> cases h
  exact .trans (.of_parts (by simp)) (State.goDown_lawsKept _ _)

end Sys2Proof.Machine

namespace Sys2Proof.Machine

/-! ### The management port -/

/-- A transaction whose request keeps the laws. -/
theorem State.transaction_lawsKept (t : Transaction) (len : Nat) (run : List Byte → State → Verdict) (s : State)
    (hrun : ∀ p u, (run p u).Leads u.LawsKept) : s.LawsKept (s.transaction t len run) := by
  refine State.transaction_leads s.LawsKept (fun n m u h => h.trans (.of_parts ⟨⟨rfl, rfl, rfl, rfl⟩, rfl, id⟩))
    (fun st p u h => h.trans (.of_parts ⟨⟨rfl, rfl, rfl, rfl⟩, rfl, id⟩)) (fun u h => h.trans u.settle_lawsKept)
    t len run (fun p u h => ?_) s (.refl s)
  have hkept := hrun p u
  cases hv : run p u with
  | refused st => trivial
  | answered q v => rw [hv] at hkept; exact h.trans hkept
  | acted v => rw [hv] at hkept; exact h.trans hkept

/-- Fields in range loaded into a DISABLED entry (R2). -/
theorem State.regionSet_lawsKept (p : List Byte) (s : State) : (s.regionSet p).Leads s.LawsKept := by
  refine withRegion_leads p fun r => ?_
  split
  · trivial
  · next hdisabled =>
    rw [ne_eq, not_not] at hdisabled
    split
    · trivial
    · split
      · next f _ hrange =>
        exact (s.setRegion_sweepKept_disabled r { s.region r with fields := f } hdisabled hdisabled
          hrange).lawsKept rfl rfl
      · trivial

/-- An entry that is not in RESYNCING takes a state other than RESYNCING (R6, R7). -/
theorem State.setRegionState_sweepKept (s : State) (r : RegionIx) (st : RegionState)
    (hs : (s.region r).state ≠ .resyncing) (hst : st ≠ .resyncing) : s.SweepKept (s.setRegionState r st) := by
  refine ⟨fun h => ?_, fun h => State.setRegionState_inRange h r st, fun _ h => h⟩
  rw [State.sweepLaw_iff] at h ⊢
  obtain ⟨hnodup, hmem, hsource⟩ := h
  refine ⟨hnodup, fun q => ?_, fun q => ?_⟩ <;> rw [State.setRegionState_region]
  · split
    · next heq => simpa [hst, heq, hs] using hmem r
    · exact hmem q
  · split
    · exact fun h => absurd h hst
    · exact hsource q

/-- A DISABLED entry is enabled, a SOURCE perhaps on to RESYNCING (R5 to R7). -/
theorem State.regionEnable_lawsKept (p : List Byte) (s : State) : (s.regionEnable p).Leads s.LawsKept := by
  refine withRegion_leads p fun r => ?_
  split
  · trivial
  · next hdisabled =>
    rw [ne_eq, not_not] at hdisabled
    split
    · trivial
    · have henabled : ∀ st, st ≠ .resyncing → s.SweepKept (s.setRegionState r st) := fun st hst =>
        s.setRegionState_sweepKept r st (by simp [hdisabled]) hst
      show s.LawsKept (s.enableRegion r)
      unfold State.enableRegion
      split
      · exact (henabled .active (by decide)).lawsKept rfl rfl
      · next hsource =>
        dsimp only
        split
        · refine ((henabled .diverged (by decide)).trans (State.toResyncing_sweepKept _ r ?_ ?_)).lawsKept rfl rfl
          · simpa [State.setRegionState_region] using hsource
          · simp [State.setRegionState_region]
        · exact (henabled .diverged (by decide)).lawsKept rfl rfl

theorem State.regionDisable_lawsKept (p : List Byte) (s : State) : (s.regionDisable p).Leads s.LawsKept := by
  refine withRegion_leads p fun r => ?_
  split
  · exact .refl s
  · exact (s.leave_sweepKept r .disabled (by decide)).lawsKept rfl rfl

theorem State.regionResync_lawsKept (p : List Byte) (s : State) : (s.regionResync p).Leads s.LawsKept := by
  refine withRegion_leads p fun r => ?_
  split
  · next h => exact (s.toResyncing_sweepKept r h.1 (by simp [h.2])).lawsKept rfl rfl
  · trivial

theorem State.regionMode_lawsKept (p : List Byte) (s : State) : (s.regionMode p).Leads s.LawsKept := by
  refine withRegion_leads p fun r => ?_
  split
  · split
    · trivial
    · exact s.setMode_lawsKept r _
  · trivial

/-- The window may change while the link is DISABLED, with no record SENT (R55, R153). -/
theorem State.linkSet_lawsKept (p : List Byte) (s : State) : (s.linkSet p).Leads s.LawsKept := by
  unfold State.linkSet
  split
  · next hdisabled =>
    split
    · trivial
    · split
      · refine ⟨⟨id, id, fun h => ?_, id⟩, .of_records rfl rfl id⟩
        rw [State.sentLaw_iff] at h ⊢
        obtain ⟨hfirst, -, hnone⟩ := h
        have hzero : s.jnl.sentCount = 0 := (sentFirst_of_noneSent (hnone hdisabled)).2
        exact ⟨hfirst, hzero.le.trans (Nat.zero_le _), hnone⟩
      · trivial
  · trivial

theorem State.linkEnable_lawsKept (s : State) : s.linkEnable.Leads s.LawsKept := by
  unfold State.linkEnable
  split
  · exact s.setTraining_lawsKept _
  · trivial

theorem State.linkRenew_lawsKept (s : State) : s.LawsKept s.linkRenew :=
  .trans (t := { s with lnc := { s.lnc with fresh := true } }) (.of_parts ⟨⟨rfl, rfl, rfl, rfl⟩, rfl, id⟩)
    (State.goDown_lawsKept _ _)

theorem State.journalSet_lawsKept (p : List Byte) (s : State) : (s.journalSet p).Leads s.LawsKept := by
  unfold State.journalSet
  dsimp only
  split
  · exact State.LawsKept.of_parts (by simp)
  · trivial

theorem State.zeroCounter_lawsKept (c : CounterId) (s : State) : s.LawsKept (s.zeroCounter c) := by
  cases c with
  | device k => exact .of_parts ⟨⟨rfl, rfl, rfl, rfl⟩, rfl, id⟩
  | captured r => exact s.setRegion_lawsKept r _ ⟨rfl, rfl, rfl⟩
  | stray r => exact s.setRegion_lawsKept r _ ⟨rfl, rfl, rfl⟩
  | applied r => exact s.setRegion_lawsKept r _ ⟨rfl, rfl, rfl⟩

theorem State.zeroAll_lawsKept (s : State) : s.LawsKept s.zeroAll := by
  refine State.SweepKept.lawsKept (.of_standing (fun r => ?_) rfl id fun _ h => h) rfl rfl
  have hzero : s.zeroAll.region r = (s.region r).zeroCounters := by simp [State.zeroAll, State.region]
  rw [hzero]
  exact ⟨rfl, rfl, rfl⟩

/-! ### Every command -/

/-- After RESET the journal is empty and no region is in RESYNCING (R35). -/
theorem State.resetAsserted_lawsKept (s : State) : s.LawsKept s.resetAsserted := by
  have hreset : State.reset.sweepLaw = true ∧ State.reset.rgt.inRange = true ∧ State.reset.recordsFormed = true := by
    decide +kernel
  exact ⟨.of_emptied rfl, fun _ => hreset.1, fun _ => hreset.2.1, fun _ _ => hreset.2.2⟩

/-- Every command keeps the laws of journal and sweep. -/
theorem exec_lawsKept (c : Instr) (s t : State) (h : exec c s = .next t) : s.LawsKept t := by
  have hnext : ∀ {u : State}, (Host.Outcome.next u : Host.Outcome State Fault Refusal) = .next t → s.LawsKept u →
      s.LawsKept t := by
    intro u hu hk
    cases hu
    exact hk
  have hevent : ∀ {f : State → Option State}, (∀ u, f s = some u → s.LawsKept u) → s.LawsKept (s.event f) :=
    fun hf => State.event_lawsKept (.refl s) hf
  have hframe : ∀ {u : State}, u.jnl = s.jnl → u.swp = s.swp → u.rgt = s.rgt → u.lnc = s.lnc → s.LawsKept u := by
    intro u hj hw hg hl
    exact .of_parts ⟨⟨by rw [hj], by rw [hj], hw, hg⟩, by rw [hl], by rw [hl]; exact id⟩
  cases c with
  | upstreamRequest r =>
    refine hnext h (State.event_lawsKept (hframe rfl rfl rfl rfl) fun u hu => ?_)
    cases hu
    exact hframe rfl rfl rfl rfl
  | malformedHead => exact hnext h (hevent s.answerMalformed_lawsKept)
  | upGrant itag => exact hnext h (hevent (s.grantUp_lawsKept itag))
  | aplGrant itag => exact hnext h (hevent (s.grantApl_lawsKept itag))
  | swpGrant itag => exact hnext h (hevent (s.grantSwp_lawsKept itag))
  | downstreamResponse itag st data =>
    exact hnext h (hevent (s.takeDownstream_lawsKept itag st (data := data.toList) (by simp)))
  | upstreamResponse tag => exact hnext h (hevent (s.sendResponse_lawsKept tag))
  | stallTimerExpiry => exact hnext h (hevent s.expireStall_lawsKept)
  | hostBusReset =>
    change execHostBusReset s = _ at h
    unfold execHostBusReset at h
    split at h
    · exact hnext h (hframe rfl rfl rfl rfl)
    · refine hnext h (hevent fun u hu => ?_)
      split at hu <;> cases hu
      exact hframe rfl rfl rfl rfl
  | hostBusResetRelease =>
    refine hnext h (State.event_lawsKept (hframe rfl rfl rfl rfl) fun u hu => ?_)
    cases hu
    exact hframe rfl rfl rfl rfl
  | reset => exact hnext h s.resetAsserted_lawsKept
  | holdDeadlineExpiry tag => exact hnext h (hevent (s.deadlineExpires_lawsKept tag))
  | frameOpportunity =>
    refine hnext h (hevent fun u hu => ?_)
    unfold State.turn at hu
    cases hl : s.lnc.link with
    | up v =>
      rw [hl] at hu
      dsimp only at hu
      split at hu <;> cases hu
      exact State.answerOpportunity_lawsKept (by simp [hl])
    | _ => rw [hl] at hu; cases hu
  | frameCompleted => exact hnext h (hevent s.completeFrame_lawsKept)
  | collision => exact hnext h (hevent s.collide_lawsKept)
  | guardTimerExpiry => exact hnext h (hevent s.expireGuard_lawsKept)
  | dwellTimerExpiry => exact hnext h (hevent s.expireDwell_lawsKept)
  | silenceTimerExpiry => exact hnext h (hevent s.expireSilence_lawsKept)
  | frameMarkDetected =>
    change execFrameMarkDetected s = _ at h
    unfold execFrameMarkDetected at h
    split at h
    · exact hnext h s.lineTaken_lawsKept
    · exact hnext h (hevent s.detectMark_lawsKept)
  | headerReceived bytes => exact hnext h (hevent (s.receiveHeader_lawsKept bytes))
  | frameEnd rest =>
    change execFrameEnd rest s = _ at h
    unfold execFrameEnd at h
    split at h
    · exact hnext h s.lineReleased_lawsKept
    · exact hnext h (hevent (s.receiveEnd_lawsKept rest))
  | retrainTimerExpiry => exact hnext h (hevent s.expireRetrain_lawsKept)
  | helloTimerExpiry => exact hnext h (hevent s.expireHello_lawsKept)
  | replyGuardExpiry => exact hnext h (hevent (s.expireTrainingGuard_lawsKept _ _))
  | startGuardExpiry => exact hnext h (hevent (s.expireTrainingGuard_lawsKept _ _))
  | trainingTimerExpiry => exact hnext h (hevent s.expireTraining_lawsKept)
  | nop t => exact hnext h (State.transaction_lawsKept _ _ _ _ fun _ u => .refl u)
  | portIdent t => exact hnext h (State.transaction_lawsKept _ _ _ _ fun _ u => .refl u)
  | regionSet t => exact hnext h (State.transaction_lawsKept _ _ _ _ fun p u => u.regionSet_lawsKept p)
  | regionEnable t => exact hnext h (State.transaction_lawsKept _ _ _ _ fun p u => u.regionEnable_lawsKept p)
  | regionDisable t => exact hnext h (State.transaction_lawsKept _ _ _ _ fun p u => u.regionDisable_lawsKept p)
  | regionResync t => exact hnext h (State.transaction_lawsKept _ _ _ _ fun p u => u.regionResync_lawsKept p)
  | regionMode t => exact hnext h (State.transaction_lawsKept _ _ _ _ fun p u => u.regionMode_lawsKept p)
  | regionQuery t =>
    exact hnext h (State.transaction_lawsKept _ _ _ _ fun p u => withRegion_leads p fun _ => .refl u)
  | linkSet t => exact hnext h (State.transaction_lawsKept _ _ _ _ fun p u => u.linkSet_lawsKept p)
  | linkEnable t => exact hnext h (State.transaction_lawsKept _ _ _ _ fun _ u => u.linkEnable_lawsKept)
  | linkDisable t => exact hnext h (State.transaction_lawsKept _ _ _ _ fun _ u => u.goDisabled_lawsKept)
  | linkRenew t => exact hnext h (State.transaction_lawsKept _ _ _ _ fun _ u => u.linkRenew_lawsKept)
  | linkQuery t => exact hnext h (State.transaction_lawsKept _ _ _ _ fun _ u => .refl u)
  | journalSet t => exact hnext h (State.transaction_lawsKept _ _ _ _ fun p u => u.journalSet_lawsKept p)
  | journalQuery t => exact hnext h (State.transaction_lawsKept _ _ _ _ fun _ u => .refl u)
  | eventQuery t => exact hnext h (State.transaction_lawsKept _ _ _ _ fun _ u => .refl u)
  | eventAck t =>
    exact hnext h (State.transaction_lawsKept _ _ _ _ fun _ _ =>
      State.LawsKept.of_parts ⟨⟨rfl, rfl, rfl, rfl⟩, rfl, id⟩)
  | eventEnable t =>
    exact hnext h (State.transaction_lawsKept _ _ _ _ fun _ _ =>
      State.LawsKept.of_parts ⟨⟨rfl, rfl, rfl, rfl⟩, rfl, id⟩)
  | counterQuery t =>
    refine hnext h (State.transaction_lawsKept _ _ _ _ fun p u => ?_)
    split
    · trivial
    · exact .refl u
  | counterZero t =>
    refine hnext h (State.transaction_lawsKept _ _ _ _ fun p u => ?_)
    split
    · exact u.zeroAll_lawsKept
    · split
      · trivial
      · exact u.zeroCounter_lawsKept _
  | undefinedRequest t =>
    change execUndefinedRequest t s = _ at h
    unfold execUndefinedRequest at h
    split at h
    · exact hnext h (.refl s)
    · split at h
      · exact hnext h (hframe rfl rfl rfl rfl)
      · split at h
        · exact hnext h (.refl s)
        · exact hnext h (hframe rfl rfl rfl rfl)
  | resetRelease =>
    change execResetRelease s = _ at h
    unfold execResetRelease at h
    split at h
    · exact hnext h (.trans (t := { s with inReset := false, now := 0 }) (hframe rfl rfl rfl rfl)
        (State.settle_lawsKept _))
    · exact hnext h (.refl s)

/-- Every step keeps the laws of journal and sweep. -/
theorem step_lawsKept (s t : State) (h : step s = .next t) : s.LawsKept t := by
  unfold step at h
  split at h
  · cases h
    unfold State.tick
    split
    · exact .refl s
    · exact .of_parts ⟨⟨rfl, rfl, rfl, rfl⟩, rfl, id⟩
  · next c rest _ =>
    have hpopped : s.LawsKept { s with pending := rest } := .of_parts ⟨⟨rfl, rfl, rfl, rfl⟩, rfl, id⟩
    exact hpopped.trans (exec_lawsKept c _ t h)

/-- Settles O56: an operation frees, reverts, fills, appends, grows or takes records, each within the laws. -/
theorem everyStepKeepsTheJournalLaws : Obligations.EveryStepKeepsTheJournalLaws := by
  intro s t h
  obtain ⟨hordered, hlimits, hsent, hcounts⟩ := (step_lawsKept s t h).journal
  exact ⟨hordered, hlimits, hsent, hcounts⟩

/-- Settles O58: an index joins the queue where its region enters RESYNCING and leaves queue or engine where the
region leaves it, and each operation on a record gives it the form of its kind. -/
theorem everyStepKeepsTheSweepAndItsRecords : Obligations.EveryStepKeepsTheSweepAndItsRecords := by
  intro s t h
  obtain ⟨hlaw, -, hformed⟩ := (step_lawsKept s t h).sweep
  exact ⟨hlaw, hformed⟩

end Sys2Proof.Machine

namespace Sys2Proof.Machine

/-! ### The water marks (R58, R59) -/

theorem State.evalMarks_rises {s : State} (hl : s.jnl.latch = false) (h : s.jnl.highMark ≤ s.jnl.occupancy) :
    s.evalMarks = { s with jnl := { s.jnl with latch := true }, mgp := s.mgp.raise .jnlHigh } := by
  simp [State.evalMarks, hl, h, State.raise]

theorem State.evalMarks_falls {s : State} (hl : s.jnl.latch = true) (h : s.jnl.occupancy ≤ s.jnl.lowMark) :
    s.evalMarks = { s with jnl := { s.jnl with latch := false }, mgp := s.mgp.raise .jnlLow } := by
  simp [State.evalMarks, hl, h, State.raise]

/-- Between the marks, or beyond one that is latched already, nothing happens. -/
theorem State.evalMarks_stays {s : State} (hhigh : ¬(s.jnl.latch = false ∧ s.jnl.highMark ≤ s.jnl.occupancy))
    (hlow : ¬(s.jnl.latch = true ∧ s.jnl.occupancy ≤ s.jnl.lowMark)) : s.evalMarks = s := by
  unfold State.evalMarks
  rw [if_neg (by simpa using hhigh), if_neg (by simpa using hlow)]

/-- Settles O11: an evaluation by its three cases, and the change of the list by whether records or bytes change. -/
theorem waterMarksFollowTheJournal : Obligations.WaterMarksFollowTheJournal := by
  refine ⟨fun s => ⟨⟨rfl, rfl⟩, State.evalMarks_rises, State.evalMarks_falls, fun hl h => ?_, fun hl h => ?_⟩,
    fun s rs => ⟨fun h => if_pos h, fun hlen hbytes => s.setRecords_same rs hlen hbytes⟩⟩
  · exact State.evalMarks_stays (fun ⟨_, hh⟩ => absurd hh (Nat.not_le.2 h)) (by simp [hl])
  · exact State.evalMarks_stays (by simp [hl]) fun ⟨_, hh⟩ => absurd hh (Nat.not_le.2 h)

/-! ### The choice of records (R100, R101) -/

/-- The scan of R101 stops where a condition fails. -/
theorem selectRecords_maximal (w sent n size : Nat) (l : List Record) {r : Record}
    (h : l[(selectRecords w sent n size l).length]? = some r) :
    let k := selectRecords w sent n size l
    r.state ≠ .pending ∨ 64 ≤ n + k.length ∨ w < sent + n + k.length + 1 ∨
      4096 < size + encodedTotal k + encodedSize r + 4 := by
  induction l generalizing n size with
  | nil => cases h
  | cons q l ih =>
    by_cases hq : q.state = .pending ∧ n < Config.frameRecords ∧ sent + n + 1 ≤ w ∧
        size + encodedSize q + 4 ≤ Config.maxBody
    · have hselect : selectRecords w sent n size (q :: l) =
          q :: selectRecords w sent (n + 1) (size + encodedSize q) l := if_pos hq
      rw [hselect, List.length_cons, List.getElem?_cons_succ] at h
      have hrest := ih (n + 1) (size + encodedSize q) h
      simp only [hselect, List.length_cons, encodedTotal, List.map_cons, List.sum_cons] at hrest ⊢
      refine hrest.imp_right fun hstop => ?_
      omega
    · have hselect : selectRecords w sent n size (q :: l) = [] := if_neg hq
      rw [hselect] at h
      cases h
      simp only [hselect, List.length_nil, encodedTotal, List.map_nil, List.sum_nil]
      simp only [Config.frameRecords, Config.maxBody] at hq
      by_cases hp : r.state = .pending
      · right
        simp only [hp, true_and] at hq
        omega
      · exact .inl hp

/-- FTX has a sendable record in a list from the send point on when its first is PENDING and the window has room. -/
theorem sendableAt_drop (w sent n : Nat) (l : List Record) :
    sendableAt w sent (l.drop n) = l[n]?.any fun r => decide (r.state = .pending) && decide (sent < w) := by
  rw [← List.head?_drop]
  cases l.drop n <;> rfl

theorem State.sendable_iff (s : State) : s.sendable = true ↔ ∃ r, s.jnl.records[s.jnl.sentCount]? = some r ∧
    r.state = .pending ∧ s.jnl.sentCount < s.lnc.params.window := by
  simp only [State.sendable, Jnl.fromSendPoint, sendableAt_drop, Option.any_eq_true, Bool.and_eq_true,
    decide_eq_true_eq]

/-- A record with the form of its kind fits a frame by itself (R38, R99). -/
theorem Record.encodedSize_le {r : Record} (h : r.formed = true) : encodedSize r ≤ 296 := by
  have hlen : r.length ≤ 256 := by
    cases hk : r.kind with
    | write =>
      obtain ⟨⟨-, hmax, -⟩, -⟩ := (Record.formed_write hk).1 h
      exact hmax
    | sweep => exact ((Record.formed_sweep hk).1 h).1.le
    | void => exact ((Record.formed_void hk).1 h).1.le.trans (Nat.zero_le _)
  unfold encodedSize
  split <;> omega

/-- A sendable record that fits a frame is selected. -/
theorem State.selection_pos {s : State} (hs : s.sendable = true)
    (hformed : ∀ r, s.jnl.fromSendPoint.head? = some r → r.formed = true) : 0 < s.selection.length := by
  obtain ⟨r, hr, hp, hw⟩ := s.sendable_iff.1 hs
  rw [← List.head?_drop] at hr
  obtain ⟨rest, hrest⟩ := List.head?_eq_some_iff.1 hr
  have hsize := Record.encodedSize_le (hformed r hr)
  have hfirst : r.state = .pending ∧ 0 < Config.frameRecords ∧ s.jnl.sentCount + 0 + 1 ≤ s.lnc.params.window ∧
      0 + encodedSize r + 4 ≤ Config.maxBody := ⟨hp, by decide, by omega, by simp only [Config.maxBody]; omega⟩
  rw [State.selection, Jnl.fromSendPoint, hrest, selectRecords, if_pos hfirst]
  exact Nat.succ_pos _

/-- Settles O25: the definitions read out, the scan's own conditions, where it stops, and that its first record fits. -/
theorem selectionIsTheLongestRun : Obligations.SelectionIsTheLongestRun := by
  refine ⟨fun r => rfl, fun s => ?_⟩
  obtain ⟨hrun, hpending, hbounds⟩ := selectRecords_spec s.lnc.params.window s.jnl.sentCount 0 0 s.jnl.fromSendPoint
  refine ⟨rfl, List.countP_eq_length_filter, rfl, ?_, s.sendable_iff, ?_, hrun, hpending, ?_, fun hk => ?_,
    fun r hr => ?_, State.selection_pos⟩
  · cases hrec : s.jnl.records <;> simp [Jnl.oldest, hrec]
  · simp [State.somethingToSend, Option.isSome_iff_ne_none]
  · rcases Nat.eq_zero_or_pos s.selection.length with hk | hk
    · omega
    · exact (Nat.zero_add _).ge.trans (hbounds hk).1
  · obtain ⟨-, hwindow, hsize⟩ := hbounds hk
    rw [Nat.add_zero] at hwindow
    rw [Nat.zero_add] at hsize
    exact ⟨hwindow, hsize⟩
  · have hstop := selectRecords_maximal s.lnc.params.window s.jnl.sentCount 0 0 s.jnl.fromSendPoint hr
    simp only [Nat.zero_add, Nat.add_zero] at hstop
    exact hstop

end Sys2Proof.Machine

namespace Sys2Proof.Machine

/-! ### A frame opportunity with sendable records (R101, R103, R113) -/

/-- Nothing is left to send after the take of the selection when no PENDING record stands behind it or the window is
full (R113). -/
theorem State.sendableAfter_eq (s : State) : s.sendableAfter =
    s.jnl.records[s.jnl.sentCount + s.selection.length]?.any fun r =>
      decide (r.state = .pending) && decide (s.jnl.sentCount + s.selection.length < s.lnc.params.window) := by
  rw [State.sendableAfter, Jnl.fromSendPoint, List.drop_drop, sendableAt_drop]

/-- The take makes the selected records SENT, and changes no byte of the journal (R41, R52). -/
theorem State.take_selection (s : State) :
    s.setRecords (takeRecords s.now s.jnl.sentCount s.selection.length s.jnl.records) = { s with jnl := { s.jnl with
      records := s.jnl.records.take s.jnl.sentCount ++ s.selection.map (Record.take s.now) ++
        s.jnl.records.drop (s.jnl.sentCount + s.selection.length) } } := by
  obtain ⟨hrun, -⟩ := selectRecords_spec s.lnc.params.window s.jnl.sentCount 0 0 s.jnl.fromSendPoint
  change s.selection = (s.jnl.records.drop s.jnl.sentCount).take s.selection.length at hrun
  rw [s.setRecords_same _ (takeRecords_length _ _ _ _) (takeRecords_bytes _ _ _ _), takeRecords, ← hrun]

theorem exec_frameOpportunity {s : State} {u : Turn} (hr : s.inReset = false) (hup : s.lnc.link = .up u)
    (hopp : s.opportunity u = true) : exec .frameOpportunity s = .next (s.answerOpportunity u).settle := by
  refine congrArg Host.Outcome.next (State.event_some _ s _ hr ?_)
  simp only [State.turn, hup, hopp, if_true]

/-- A DATA frame answers an opportunity with a sendable record, none of the selected ones at send count 8 (R103). -/
theorem State.answerOpportunity_data {s : State} (u : Turn) (hs : s.sendable = true)
    (hcount : ∀ r ∈ s.selection, r.sendCount < 8) :
    s.answerOpportunity u = (s.buildData (s.turnMark u)).setLink (.up (u.frameStarted (s.turnMark u))) := by
  have hnone : ¬s.selection.any (fun r => decide (Config.sendLimit ≤ r.sendCount)) = true := by simpa using hcount
  simp only [State.answerOpportunity, hs, if_true, if_neg hnone]

/-- Settles O26: the opportunity is answered by a DATA frame, whose take changes no byte of the journal. -/
theorem frameOpportunityBuildsData : Obligations.FrameOpportunityBuildsData := by
  intro s u hr hup hsub hframe hburst hsent hs hcount sent k total left mark h
  have hopp : s.opportunity u = true := by
    simp [State.opportunity, hsub, hframe, hburst, State.somethingToSend, hs, hsent]
  have hleft : s.sendableAfter = left := by
    rw [State.sendableAfter_eq]
    simp only [left, sent, k]
    cases s.jnl.records[s.jnl.sentCount + s.selection.length]? <;> rfl
  have hmark : s.turnMark u = mark := by rw [State.turnMark, hleft]
  refine ⟨_, exec_frameOpportunity hr hup hopp, ?_⟩
  rw [State.answerOpportunity_data u hs hcount, hmark, State.buildData, State.take_selection]
  refine ⟨rfl, ?_, rfl, rfl, rfl, rfl, rfl, rfl, rfl, rfl, rfl, rfl⟩
  simp [State.setLink, State.transmit, Turn.frameStarted, hsent]

/-! ### The end of the guard (R111, R112, R114) -/

/-- The oldest record is SENT and its ack timeout has passed (R112). -/
def State.AckOverdue (s : State) : Prop :=
  ∃ r rest sentAt, s.jnl.records = r :: rest ∧ r.state = .sent ∧ r.lastSent = some sentAt ∧
    sentAt + s.lnc.params.ackTimeout ≤ s.now

theorem State.ackCheck_overdue {s : State} (h : s.AckOverdue) : s.ackCheck = s.goBack s.jnl.oldest := by
  obtain ⟨r, rest, sentAt, hrec, hstate, hlast, hdue⟩ := h
  simp only [State.ackCheck, hrec, hstate, hlast, if_pos hdue]

theorem State.ackCheck_inTime {s : State} (h : ¬s.AckOverdue) : s.ackCheck = s := by
  unfold State.ackCheck
  split
  · rfl
  · next r rest hrec =>
    split
    · next sentAt hstate hlast => exact if_neg fun hdue => h ⟨r, rest, sentAt, hrec, hstate, hlast, hdue⟩
    · rfl

theorem exec_guardTimerExpiry {s : State} {u : Turn} {g : GuardTimer} (hr : s.inReset = false)
    (hup : s.lnc.link = .up u) (hsub : u.sub = .guard) (hg : u.guard = some g) :
    exec .guardTimerExpiry s = .next ((s.reach g.due).enterHold u).settle := by
  refine congrArg Host.Outcome.next (State.event_some _ s _ hr ?_)
  simp only [State.expireGuard, State.turn, hup, hsub, hg]

/-- A go-back reads the journal and the events alone (R54). -/
theorem State.goBack_parts {s t : State} (q : Seq) (hj : t.jnl = s.jnl) (hm : t.mgp = s.mgp) :
    (t.goBack q).jnl = (s.setRecords ((freeBefore q s.jnl.records).map Record.revert)).jnl ∧
      (t.goBack q).mgp = (s.setRecords ((freeBefore q s.jnl.records).map Record.revert)).mgp.count .goBacks := by
  rw [State.goBack, hj, State.setRecords_frame _ s t hj hm]
  exact ⟨rfl, rfl⟩

@[simp] theorem State.ackCheck_nextSeq (s : State) : s.ackCheck.jnl.nextSeq = s.jnl.nextSeq := by
  by_cases h : s.AckOverdue
  · rw [State.ackCheck_overdue h, State.goBack, State.count_jnl, State.setRecords_nextSeq]
  · rw [State.ackCheck_inTime h]

/-- Settles O30: the ack check at the time the guard ends, and HOLD entered after it. -/
theorem guardExpiryStartsTheTurn : Obligations.GuardExpiryStartsTheTurn := by
  intro s u g hr hup hsub hg now due reverted
  have hreach : s.reach g.due = { s with now := now } := rfl
  have hdue : due ↔ (s.reach g.due).AckOverdue := Iff.rfl
  refine ⟨(s.reach g.due).enterHold u, exec_guardTimerExpiry hr hup hsub hg, by simp [hreach], fun h => ?_, fun h => ?_,
    by simp [State.enterHold], ?_, by simp⟩
  · have hcheck : (s.reach g.due).ackCheck = (s.reach g.due).goBack s.jnl.oldest := State.ackCheck_overdue (hdue.1 h)
    rw [State.enterHold, hcheck]
    exact State.goBack_parts s.jnl.oldest rfl rfl
  · have hcheck : (s.reach g.due).ackCheck = s.reach g.due := State.ackCheck_inTime fun ho => h (hdue.2 ho)
    rw [State.enterHold, hcheck]
    exact ⟨rfl, rfl⟩
  · have hlnc : (s.reach g.due).ackCheck.lnc = s.lnc := by simp [hreach]
    have hsend : ((s.reach g.due).enterHold u).somethingToSend = (s.reach g.due).ackCheck.somethingToSend := rfl
    rw [hsend, State.enterHold]
    simp only [State.setLink, hlnc]
    rfl

end Sys2Proof.Machine

namespace Sys2Proof.Machine

/-! ### Fields of a payload (12.2) -/

/-- A field's bytes are those it is read from. -/
theorem beBytes_field {p : List Byte} {offset w : Nat} (h : offset + w ≤ p.length) :
    beBytes w (field p offset w) = (p.drop offset).take w := by
  have hlen : ((p.drop offset).take w).length = w := by
    rw [List.length_take, List.length_drop]
    omega
  have hbytes := beBytes_beNat ((p.drop offset).take w)
  rwa [hlen] at hbytes

theorem roleOf_eq_some {b : Byte} {r : Role} (h : roleOf b = some r) : b = r.code := by
  unfold roleOf at h
  split at h
  · cases h; assumption
  · split at h <;> cases h
    assumption

/-- A payload that gives ten parameters is the bytes of those parameters (12.2). -/
theorem encodeParams_of_paramsOf {p : List Byte} {q : LinkParams} (hlen : p.length = 18) (h : paramsOf p = some q) :
    p = encodeParams q := by
  obtain ⟨role, hrole, rfl⟩ := Option.map_eq_some_iff.1 h
  simp only [encodeParams, ← roleOf_eq_some hrole]
  iterate 9 rw [beBytes_field (by omega)]
  match p, hlen with
  | [_, _, _, _, _, _, _, _, _, _, _, _, _, _, _, _, _, _], _ => rfl

/-! ### LINK.SET (R153, R173) -/

theorem State.linkSet_elsewhere {s : State} (h : s.lnc.link ≠ .disabled) (p : List Byte) :
    s.linkSet p = .refused .badState := by
  unfold State.linkSet
  split
  · contradiction
  · rfl

theorem State.linkSet_disabled {s : State} (h : s.lnc.link = .disabled) (p : List Byte) : s.linkSet p =
    match (paramsOf p).filter LinkParams.inRange with
    | some q => .answered [] { s with lnc := { s.lnc with params := q } }
    | none => .refused .badValue := by
  simp only [State.linkSet, h]
  cases paramsOf p with
  | none => rfl
  | some q => cases hq : q.inRange <;> simp [Option.filter, hq]

/-! ### JOURNAL.SET (R59, R175) -/

/-- A payload of JOURNAL.SET with two marks and the reserve in their ranges (12.2, R37). -/
def JournalSetting (p : List Byte) (high low desc bytes : Nat) : Prop :=
  p = beBytes 1 high ++ beBytes 1 low ++ beBytes 2 desc ++ beBytes 4 bytes ∧
    1 ≤ high ∧ high ≤ 100 ∧ low < high ∧ desc ≤ 1024 ∧ bytes ≤ 65536

/-- The place of each value in a JOURNAL.SET payload (12.2). -/
theorem JournalSetting.fields {p : List Byte} {high low desc bytes : Nat} (h : JournalSetting p high low desc bytes) :
    field p 0 1 = high ∧ field p 1 1 = low ∧ field p 2 2 = desc ∧ field p 4 4 = bytes := by
  obtain ⟨rfl, -, hhigh, hlow, hdesc, hbytes⟩ := h
  exact ⟨beNat_beBytes_of_lt (k := 1) (by omega), beNat_beBytes_of_lt (k := 1) (by omega),
    beNat_beBytes_of_lt (k := 2) (by omega), beNat_beBytes_of_lt (k := 4) (by omega)⟩

/-- The values of a payload make its bytes. -/
theorem journalSetting_of_fields {p : List Byte} (hlen : p.length = 8)
    (h : 1 ≤ field p 0 1 ∧ field p 0 1 ≤ 100 ∧ field p 1 1 < field p 0 1 ∧ field p 2 2 ≤ 1024 ∧ field p 4 4 ≤ 65536) :
    JournalSetting p (field p 0 1) (field p 1 1) (field p 2 2) (field p 4 4) := by
  refine ⟨?_, h⟩
  iterate 4 rw [beBytes_field (by omega)]
  match p, hlen with
  | [_, _, _, _, _, _, _, _], _ => rfl

/-- The journal with its two marks and the reserve replaced (R175). -/
def State.withMarks (high low desc bytes : Nat) (s : State) : State :=
  { s with jnl := { s.jnl with highMark := high, lowMark := low, reserveDesc := desc, reserveBytes := bytes } }

theorem State.journalSet_accepted {p : List Byte} {high low desc bytes : Nat} (s : State)
    (h : JournalSetting p high low desc bytes) :
    s.journalSet p = .answered [] (s.withMarks high low desc bytes).evalMarks := by
  obtain ⟨hhigh, hlow, hdesc, hbytes⟩ := h.fields
  obtain ⟨-, hmin, hmax, hlt, hd, hb⟩ := h
  simp only [State.journalSet, hhigh, hlow, hdesc, hbytes]
  exact if_pos ⟨hmin, hmax, by omega, hd, hb, hlt⟩

theorem State.journalSet_refused {p : List Byte} (s : State) (hlen : p.length = 8)
    (h : ∀ high low desc bytes, ¬JournalSetting p high low desc bytes) : s.journalSet p = .refused .badValue := by
  refine if_neg fun ⟨hmin, hmax, _, hd, hb, hlt⟩ => ?_
  exact h _ _ _ _ (journalSetting_of_fields hlen ⟨hmin, hmax, hlt, hd, hb⟩)

/-- Settles O48: a payload encodes values exactly when they are what is read from it, and the marks are evaluated
once more. -/
theorem linkAndJournalSettingsAreReplaced : Obligations.LinkAndJournalSettingsAreReplaced := by
  intro t s p hr hf u answered
  constructor <;> intro ht hlen
  · have hexec : exec (.linkSet t) s = .next ((u.linkSet p).state u) :=
      congrArg Host.Outcome.next (State.transaction_state (fun p s => s.linkSet p) hr hf ht rfl hlen)
    refine ⟨fun hl => ?_, fun hl hno => ?_, fun hl q hq hp => ?_⟩
    · rw [hexec, State.linkSet_elsewhere (s := u) hl]
      rfl
    · have hnone : (paramsOf p).filter LinkParams.inRange = none := by
        refine Option.filter_eq_none_iff.2 fun q hq hrange => ?_
        exact hno q hrange (encodeParams_of_paramsOf hlen hq)
      rw [hexec, State.linkSet_disabled (s := u) hl, hnone]
      rfl
    · have hsome : (paramsOf p).filter LinkParams.inRange = some q :=
        Option.filter_eq_some_iff.2 ⟨by rw [hp]; exact paramsOf_encodeParams q hq, hq⟩
      rw [hexec, State.linkSet_disabled (s := u) hl, hsome]
      rfl
  · intro encodes
    have hexec : exec (.journalSet t) s = .next ((u.journalSet p).state u) :=
      congrArg Host.Outcome.next (State.transaction_state (fun p s => s.journalSet p) hr hf ht rfl hlen)
    refine ⟨fun hno => ?_, fun high low desc bytes henc => ?_⟩
    · rw [hexec, u.journalSet_refused hlen hno]
      rfl
    · intro rises falls
      refine ⟨(u.withMarks high low desc bytes).evalMarks.answer .ok [], ?_, ?_, fun h => ?_, fun h => ?_,
        fun hrise hfall => ?_, ?_⟩
      · rw [hexec, u.journalSet_accepted henc]
        rfl
      · exact (State.evalMarks_keeps _).1
      · rw [State.evalMarks_rises (s := u.withMarks high low desc bytes) h.1 h.2]
        exact ⟨rfl, rfl⟩
      · rw [State.evalMarks_falls (s := u.withMarks high low desc bytes) h.1 h.2]
        exact ⟨rfl, rfl⟩
      · rw [State.evalMarks_stays (s := u.withMarks high low desc bytes) hrise hfall]
        exact ⟨rfl, rfl⟩
      · simp [State.answer, State.withMarks, u, State.shiftOut]

/-! ### LINK.ENABLE, LINK.DISABLE and LINK.RENEW (R154, R155) -/

theorem State.linkUp_iff (s : State) : s.linkUp = true ↔ ∃ u, s.lnc.link = .up u := by
  unfold State.linkUp
  cases s.lnc.link <;> simp

theorem Link.joined_iff (l : Link) : l.joined = true ↔ (∃ t, l = .training t) ∨ ∃ u, l = .up u := by
  cases l <;> simp [Link.joined]

/-- Reverting changes no byte of the journal (R41, R55). -/
theorem State.revertSent_eq (s : State) :
    s.revertSent = { s with jnl := { s.jnl with records := s.jnl.records.map Record.revert } } := by
  refine s.setRecords_same _ (List.length_map _) ?_
  unfold recordsBytes Jnl.bytes recordsBytes
  rw [List.map_map]
  congr 1
  refine List.map_congr_left fun r _ => ?_
  dsimp only [Function.comp, Record.revert]
  split <;> rfl

/-- All the entry to DISABLED does from another link state (R55, R94, R105, R137, R154, R165). -/
theorem State.goDisabled_eq {s : State} (h : s.lnc.link ≠ .disabled) : s.goDisabled = { s with
    jnl := { s.jnl with records := s.jnl.records.map Record.revert }
    ftx := if s.lnc.link.joined then ⟨none, none⟩ else s.ftx
    frx := if s.lnc.link.joined then { s.frx with rx := none } else s.frx
    lnc := { s.lnc with
      link := .disabled
      lastCause := if s.lnc.link.joined then some .disabled else s.lnc.lastCause
      fresh := s.lnc.fresh || (s.lnc.link.joined && s.lnc.unconfirmed)
      unconfirmed := !s.lnc.link.joined && s.lnc.unconfirmed }
    mgp := if s.linkUp then s.mgp.raise .linkDown else s.mgp } := by
  unfold State.goDisabled State.linkUp
  cases hl : s.lnc.link with
  | disabled => exact absurd hl h
  | training t => simp [State.revertSent_eq, Link.joined, State.dropLine]
  | up u => simp [State.revertSent_eq, Link.joined, State.dropLine, State.raise]
  | down d => simp [State.revertSent_eq, Link.joined, State.setLink]

/-- The training context at an entry to TRAINING, by role (R159, R160, R164). -/
theorem Lnc.trainingStart_eq (l : Lnc) (now : Nat) : l.trainingStart now =
    ⟨if decide (l.params.role = .primary) then .calling else .waiting, none, none,
      ⟨now, l.params.trainingLimit * 1000⟩, none, none,
      if decide (l.params.role = .primary) then some .hello else none⟩ := by
  unfold Lnc.trainingStart
  cases l.params.role <;> rfl

theorem State.linkEnable_disabled {s : State} (h : s.lnc.link = .disabled) :
    s.linkEnable = .acted (s.setLink (.training (s.lnc.trainingStart s.now))) := by
  simp only [State.linkEnable, h]
  rfl

theorem State.linkEnable_elsewhere {s : State} (h : s.lnc.link ≠ .disabled) : s.linkEnable = .refused .badState := by
  unfold State.linkEnable
  split
  · contradiction
  · rfl

theorem State.linkRenew_apart {s : State} (h : s.lnc.link.joined = false) :
    s.linkRenew = { s with lnc := { s.lnc with fresh := true } } :=
  State.goDown_apart _ _ h

theorem State.linkRenew_joined {s : State} (h : s.lnc.link.joined = true) : s.linkRenew = { s with
    ftx := ⟨none, none⟩
    frx := { s.frx with rx := none }
    lnc := { s.lnc with link := s.lnc.fallen s.now, lastCause := some .renew, fresh := true, unconfirmed := false }
    mgp := s.mgp.raise .linkDown } :=
  State.goDown_joined .renew { s with lnc := { s.lnc with fresh := true } } h

/-- Settles O49: each request by link state, what it does to the link in one equation. -/
theorem linkEnableDisableAndRenew : Obligations.LinkEnableDisableAndRenew := by
  refine ⟨fun s => ⟨s.linkUp_iff, s.lnc.link.joined_iff⟩, ?_⟩
  intro t s hr hf ht u answered ok first
  have hexec : ∀ run : List Byte → State → Verdict, s.transaction t 0 run = (run [] u).state u :=
    fun run => State.transaction_state run hr hf ht rfl rfl
  have henable : exec (.linkEnable t) s = .next (u.linkEnable.state u) :=
    congrArg Host.Outcome.next (hexec fun _ s => s.linkEnable)
  have hdisable : exec (.linkDisable t) s = .next (u.goDisabled.answer .ok []).settle :=
    congrArg Host.Outcome.next (hexec fun _ s => .acted s.goDisabled)
  have hrenew : exec (.linkRenew t) s = .next (u.linkRenew.answer .ok []).settle :=
    congrArg Host.Outcome.next (hexec fun _ s => .acted s.linkRenew)
  refine ⟨fun hl => ?_, fun hl => ?_, fun hl => ?_, fun hl => ?_, fun hl => ?_, fun hl => ?_⟩
  · rw [henable, State.linkEnable_disabled (s := u) hl, Lnc.trainingStart_eq]
    rfl
  · rw [henable, State.linkEnable_elsewhere (s := u) hl]
    rfl
  · have hstay : u.goDisabled = u := by
      have hu : u.lnc.link = .disabled := hl
      simp only [State.goDisabled, hu]
    rw [hdisable, hstay]
    rfl
  · rw [hdisable, State.goDisabled_eq (s := u) hl]
    cases hup : s.linkUp
    · rw [show u.linkUp = false from hup]
      rfl
    · rw [show u.linkUp = true from hup]
      rfl
  · rw [hrenew, State.linkRenew_apart (s := u) hl]
    rfl
  · rw [hrenew, State.linkRenew_joined (s := u) hl]
    rfl

end Sys2Proof.Machine

namespace Sys2Proof.Machine

/-! ### The deadline of an OPEN hold (R67 to R69) -/

/-- Entries that fail or are waived at once, with the answered ones told by a test `a` on the changed entry (R64). -/
theorem State.formResponses_of_resolved_filter {s : State} {c a : Hold → Bool} {st : HoldState}
    (hv : ∀ k ∈ s.hld.holds, k.verdict = none) (hst : st = .failed ∨ st = .waived)
    (ha : ∀ k ∈ s.hld.holds, k.localStatus.isSome = true → a (if c k then { k with state := st } else k) = c k) :
    (s.mapHolds fun k => if c k then { k with state := st } else k).formResponses = { s with
      hld := ⟨(s.hld.holds.map fun k => if c k then { k with state := st } else k).filter
        fun k => !(a k && k.localStatus.isSome)⟩
      upi := { s.upi with responses := s.upi.responses ++
        (s.hld.holds.filter fun k => c k && k.localStatus.isSome).map fun k =>
          ⟨k.tag, if st = .waived then .okay else .fault, []⟩ } } := by
  have hleft : (s.hld.holds.filter fun k => !(c k && k.localStatus.isSome)) = s.hld.holds.filter
      ((fun k => !(a k && k.localStatus.isSome)) ∘ fun k => if c k then { k with state := st } else k) := by
    refine List.filter_congr fun k hk => ?_
    have hlocal : (if c k then { k with state := st } else k).localStatus = k.localStatus := by split <;> rfl
    rw [Function.comp_apply, hlocal]
    cases hl : k.localStatus.isSome
    · rw [Bool.and_false, Bool.and_false]
    · rw [ha k hk hl]
  rw [State.formResponses_of_resolved hv hst, List.filter_map, hleft]

/-- A hold is the only one of the table with its tag (R62). -/
theorem filter_tag_eq_singleton {l : List Hold} {h : Hold} (ht : (l.map Hold.tag).Nodup) (hh : h ∈ l) :
    (l.filter fun k => decide (k.tag = h.tag)) = [h] := by
  have hsame : (l.filter fun k => decide (k.tag = h.tag)) = l.filter fun k => decide (k = h) :=
    List.filter_congr fun k hk =>
      decide_eq_decide.2 ⟨fun htag => List.inj_on_of_nodup_map ht hk hh htag, congrArg Hold.tag⟩
  rw [hsame, List.filter_eq, List.count_eq_one_of_mem (ht.of_map _) hh, List.replicate_one]

/-- FAIL fails the one OPEN entry with the tag, and answers it FAULT if its local status is known (R68). -/
theorem State.holdFail_eq {s : State} {h : Hold} (hv : ∀ k ∈ s.hld.holds, k.verdict = none)
    (ht : (s.hld.holds.map Hold.tag).Nodup) (hh : h ∈ s.hld.holds) (ho : h.state = .openHold) :
    s.holdFail h.tag = { s with
      hld := ⟨(s.hld.holds.map fun k => if k.tag = h.tag then { k with state := .failed } else k).filter
        fun k => !(decide (k.tag = h.tag) && k.localStatus.isSome)⟩
      upi := { s.upi with responses := s.upi.responses ++
        if h.localStatus.isSome then [⟨h.tag, .fault, []⟩] else [] } } := by
  have hopen : s.holdFail h.tag = (s.mapHolds fun k =>
      if decide (k.tag = h.tag) then { k with state := .failed } else k).formResponses := by
    refine congrArg (fun l => State.formResponses { s with hld := ⟨l⟩ }) (List.map_congr_left fun k hk => ?_)
    by_cases htag : k.tag = h.tag
    · obtain rfl := List.inj_on_of_nodup_map ht hk hh htag
      simp only [ho, and_self, decide_true, ↓reduceIte]
    · simp only [htag, false_and, decide_false, ↓reduceIte, Bool.false_eq_true]
  have hanswered : (s.hld.holds.filter fun k => decide (k.tag = h.tag) && k.localStatus.isSome) =
      if h.localStatus.isSome then [h] else [] := by
    simp only [Bool.and_comm (decide _)]
    rw [← List.filter_filter, filter_tag_eq_singleton ht hh, List.filter_singleton]
    cases h.localStatus <;> rfl
  rw [hopen, State.formResponses_of_resolved_filter (a := fun k => decide (k.tag = h.tag)) hv (.inl rfl)
    fun k _ _ => by split <;> rfl, hanswered]
  cases h.localStatus <;> simp only [decide_eq_true_eq] <;> rfl

/-- DEGRADE makes the region ASYNC and waives its OPEN entries, answering OKAY those with a local status (R69). -/
theorem State.holdDegrade_eq {s : State} (r : RegionIx) (hv : ∀ k ∈ s.hld.holds, k.verdict = none) :
    s.holdDegrade r = { s with
      rgt := (s.setMode r .async).rgt
      hld := ⟨(s.hld.holds.map fun k =>
          if k.region = r ∧ k.state = .openHold then { k with state := .waived } else k).filter
        fun k => !(decide (k.region = r ∧ k.state = .waived) && k.localStatus.isSome)⟩
      upi := { s.upi with responses := s.upi.responses ++ (s.hld.holds.filter fun k =>
        decide (k.region = r ∧ k.state = .openHold) && k.localStatus.isSome).map fun k => ⟨k.tag, .okay, []⟩ } } := by
  have hform := State.formResponses_of_resolved_filter (s := s.setMode r .async) (st := .waived)
    (c := fun k => decide (k.region = r ∧ k.state = .openHold))
    (a := fun k => decide (k.region = r ∧ k.state = .waived)) hv (.inr rfl) fun k hk hl => ?_
  · simp only [decide_eq_true_eq] at hform
    exact hform
  · have ho : k.state = .openHold := by
      rcases k.verdict_eq_none_iff.1 (hv k hk) with hnone | ⟨hopen, _⟩
      · rw [hnone] at hl
        cases hl
      · exact hopen
    by_cases hr : k.region = r <;> simp [hr, ho]

/-- The expiry of an OPEN entry is raised and counted, and acts by the entry's action (R67). -/
theorem State.expireHold_open {s : State} {h : Hold} (hf : s.holdOf h.tag = some h) (ho : h.state = .openHold) :
    (h.action = .fail → s.expireHold h.tag = ((s.raise .syncTimeout).count .syncTimeouts).holdFail h.tag) ∧
      (h.action = .degrade →
        s.expireHold h.tag = ((s.raise .syncTimeout).count .syncTimeouts).holdDegrade h.region) := by
  constructor <;> intro ha <;> simp only [State.expireHold, hf, ho, ha, ↓reduceIte]

/-- Under either action the expiry of an OPEN entry raises SYNC_TIMEOUT and counts SYNC_TIMEOUTS, once (R67). -/
theorem State.expireHold_mgp {s : State} {h : Hold} (hf : s.holdOf h.tag = some h) (ho : h.state = .openHold) :
    (s.expireHold h.tag).mgp = (s.mgp.raise .syncTimeout).count .syncTimeouts := by
  obtain ⟨hfail, hdegrade⟩ := State.expireHold_open hf ho
  cases ha : h.action with
  | fail => rw [hfail ha]; rfl
  | degrade => rw [hdegrade ha]; rfl

/-- Settles O24: an expiry finds no OPEN entry and is discarded, or acts at the deadline by the entry's action. -/
theorem holdDeadlineFailsOrDegrades : Obligations.HoldDeadlineFailsOrDegrades := by
  refine ⟨fun s h _ hf hstate => ?_, fun s tag hnone => ?_, fun s h hr hf ho hv ht => ?_⟩
  · have hdiscard : s.deadlineExpires h.tag = none := by simp only [State.deadlineExpires, hf, hstate, ↓reduceIte]
    exact congrArg Host.Outcome.next (State.event_none _ s hdiscard)
  · have hlookup : s.holdOf tag = none := List.find?_eq_none.2 fun k hk => by simpa using hnone k hk
    have hdiscard : s.deadlineExpires tag = none := by simp only [State.deadlineExpires, hlookup]
    exact congrArg Host.Outcome.next (State.event_none _ s hdiscard)
  · have hexpires : s.deadlineExpires h.tag = some ((s.reach h.deadline).expireHold h.tag) := by
      simp only [State.deadlineExpires, hf, ho, ↓reduceIte]
    have hh : h ∈ s.hld.holds := List.mem_of_find?_eq_some hf
    obtain ⟨hfail, hdegrade⟩ := State.expireHold_open (s := s.reach h.deadline) hf ho
    refine ⟨_, congrArg Host.Outcome.next (State.event_some _ s _ hr hexpires), ?_,
      State.expireHold_mgp (s := s.reach h.deadline) hf ho, fun ha => ?_, fun ha => ?_, ?_⟩
    · rw [State.expireHold_now]
      rfl
    · have hfails := State.holdFail_eq (s := ((s.reach h.deadline).raise .syncTimeout).count .syncTimeouts) hv ht hh ho
      rw [hfail ha, hfails]
      exact ⟨rfl, rfl, rfl⟩
    · have hdegrades := State.holdDegrade_eq (s := ((s.reach h.deadline).raise .syncTimeout).count .syncTimeouts)
        h.region hv
      rw [hdegrade ha, hdegrades]
      exact ⟨rfl, rfl, rfl⟩
    · simp

end Sys2Proof.Machine

namespace Sys2Proof.Machine

/-! ### The laws of the line as facts (law 12; R105, R109, R114, R117) -/

/-- What the laws of the line read of a state; `drives` is the type of the frame in progress. -/
structure LineView where
  link : Link
  busy : Bool
  met : Bool
  burst : Nat
  drives : Option FrameType
  receiving : Bool
  inReset : Bool

/-- The line as a state has it. -/
def State.line (s : State) : LineView where
  link := s.lnc.link
  busy := s.lnc.lineBusy
  met := s.lnc.lineMet
  burst := s.lnc.params.burst
  drives := s.ftx.frame.map TxFrame.type
  receiving := s.frx.rx.isSome
  inReset := s.inReset

/-- The link state lets the part drive the line with a frame of a type (R105). -/
def Link.Drives (f : FrameType) : Link → Prop
  | .training _ => f = .hello ∨ f = .start
  | .up u => u.sub = .hold ∧ (f = .data ∨ f = .ctrl)
  | .disabled => False
  | .down _ => False

/-- Law 12 as facts. -/
structure LineView.Sound (v : LineView) : Prop where
  drives : ∀ f, v.drives = some f → v.busy = false ∧ v.link.Drives f
  listens : ∀ u, v.link = .up u → v.busy = true → u.sub = .listen ∧ u.silence = .held
  receives : v.receiving = true → v.busy = true ∧ v.link.joined = true
  apart : v.busy = true → v.met = false
  reset : v.inReset = true → v.link = .disabled ∧ v.receiving = false

theorem LineView.sound_iff (v : LineView) : v.Sound ↔
    (∀ f, v.drives = some f → v.busy = false ∧ v.link.Drives f) ∧
      (∀ u, v.link = .up u → v.busy = true → u.sub = .listen ∧ u.silence = .held) ∧
      (v.receiving = true → v.busy = true ∧ v.link.joined = true) ∧ (v.busy = true → v.met = false) ∧
      (v.inReset = true → v.link = .disabled ∧ v.receiving = false) :=
  ⟨fun ⟨hd, hl, hr, ha, hi⟩ => ⟨hd, hl, hr, ha, hi⟩, fun ⟨hd, hl, hr, ha, hi⟩ => ⟨hd, hl, hr, ha, hi⟩⟩

theorem State.lineLaw_iff (s : State) : s.lineLaw = true ↔ s.line.Sound := by
  rw [LineView.sound_iff]
  cases hb : s.lnc.lineBusy <;> cases hi : s.inReset <;> cases hf : s.ftx.frame <;> cases hl : s.lnc.link <;>
    simp [State.lineLaw, State.line, Link.Drives, Link.joined, hb, hi, hf, hl, and_assoc]

/-- The frames of a turn and the consecutive counts are in their bounds (R113, R120, R123). -/
structure Turn.Counted (burst : Nat) (u : Turn) : Prop where
  frames : u.frames ≤ burst
  missed : u.missed < 4
  collisions : u.collisions < 4

/-- The turn timers run in their sub-states and the counts are in their bounds; a dwell runs before the first frame of
the turn (R109, R114). -/
structure Turn.Timed (burst : Nat) (drives : Option FrameType) (u : Turn) : Prop extends u.Counted burst where
  hold : u.sub = .hold → u.guard = none ∧ u.silence = .stopped ∧ (u.dwell ≠ none → u.frames = 0 ∧ drives = none)
  listen : u.sub = .listen → u.guard = none ∧ u.dwell = none ∧ u.silence ≠ .stopped
  guard : u.sub = .guard → u.guard ≠ none ∧ u.dwell = none ∧ u.silence = .stopped

theorem Turn.timed_iff (burst : Nat) (drives : Option FrameType) (u : Turn) : u.Timed burst drives ↔
    (u.sub = .hold → u.guard = none ∧ u.silence = .stopped ∧ (u.dwell ≠ none → u.frames = 0 ∧ drives = none)) ∧
      (u.sub = .listen → u.guard = none ∧ u.dwell = none ∧ u.silence ≠ .stopped) ∧
      (u.sub = .guard → u.guard ≠ none ∧ u.dwell = none ∧ u.silence = .stopped) ∧
      u.frames ≤ burst ∧ u.missed < 4 ∧ u.collisions < 4 :=
  ⟨fun ⟨⟨hf, hm, hc⟩, hh, hl, hg⟩ => ⟨hh, hl, hg, hf, hm, hc⟩,
    fun ⟨hh, hl, hg, hf, hm, hc⟩ => ⟨⟨hf, hm, hc⟩, hh, hl, hg⟩⟩

/-- The law of the turn but for what FTX has to send while the dwell runs. -/
def LineView.TurnTimed (v : LineView) : Prop := ∀ u, v.link = .up u → u.Timed v.burst v.drives

/-- While the dwell runs FTX has nothing to send (R114). -/
def State.DwellIdle (s : State) : Prop :=
  ∀ u, s.lnc.link = .up u → u.sub = .hold → u.dwell ≠ none → s.somethingToSend = false

theorem State.turnLaw_iff (s : State) : s.turnLaw = true ↔ s.line.TurnTimed ∧ s.DwellIdle := by
  unfold LineView.TurnTimed State.DwellIdle
  cases hl : s.lnc.link with
  | up u =>
    cases hsub : u.sub <;> cases hd : u.dwell <;>
      simp [State.turnLaw, State.line, Turn.timed_iff, hl, hsub, hd, and_assoc, Option.isSome_iff_ne_none]
    tauto
  | _ => simp [State.turnLaw, State.line, hl]

/-! ### What an operation may do to the line -/

/-- The line after an operation is as the laws have it when the line before was, the turn but for the end of a dwell. -/
structure LineView.Kept (v w : LineView) : Prop where
  sound : v.Sound → w.Sound
  timed : v.Sound → v.TurnTimed → w.TurnTimed

theorem LineView.Kept.refl (v : LineView) : v.Kept v := ⟨id, fun _ => id⟩

theorem LineView.Kept.of_eq {v w : LineView} (h : w = v) : v.Kept w := h ▸ .refl v

theorem LineView.Kept.trans {v w x : LineView} (h : v.Kept w) (k : w.Kept x) : v.Kept x :=
  ⟨k.sound ∘ h.sound, fun hs ht => k.timed (h.sound hs) (h.timed hs ht)⟩

/-- What the laws give may be used to show that an operation keeps them. -/
theorem LineView.Kept.of_sound {v w : LineView} (h : v.Sound → v.Kept w) : v.Kept w :=
  ⟨fun hs => (h hs).sound hs, fun hs => (h hs).timed hs⟩

/-- RESET holds the link in DISABLED. -/
theorem LineView.Sound.awake {v : LineView} (h : v.Sound) (hl : v.link ≠ .disabled) : v.inReset = false :=
  Bool.eq_false_iff.2 fun hr => hl (h.reset hr).1

/-- A peer frame on the line holds the part off it (R105, R111). -/
theorem LineView.Sound.silent {v : LineView} (h : v.Sound) (hb : v.busy = true) : v.drives = none :=
  Option.eq_none_iff_forall_ne_some.2 fun f hf => by simp [(h.drives f hf).1] at hb

/-- Outside HOLD an UP node drives nothing (R109). -/
theorem LineView.Sound.idle {v : LineView} {u : Turn} (h : v.Sound) (hu : v.link = .up u) (hsub : u.sub ≠ .hold) :
    v.drives = none :=
  Option.eq_none_iff_forall_ne_some.2 fun f hf => by
    have hdrives := (h.drives f hf).2
    rw [hu] at hdrives
    exact hsub hdrives.1

/-- The line is free of peer frames unless the node is in LISTEN with its silence timer held (R117). -/
theorem LineView.Sound.free {v : LineView} {u : Turn} (h : v.Sound) (hu : v.link = .up u)
    (hsub : u.sub ≠ .listen ∨ u.silence ≠ .held) : v.busy = false :=
  Bool.eq_false_iff.2 fun hb => by
    obtain ⟨hlisten, hheld⟩ := h.listens u hu hb
    exact hsub.elim (· hlisten) (· hheld)

/-- Outside TRAINING and UP the part drives nothing (R105). -/
theorem LineView.Sound.undriven {v : LineView} (h : v.Sound) (hl : v.link.joined = false) : v.drives = none :=
  Option.eq_none_iff_forall_ne_some.2 fun f hf => by
    have hdrives := (h.drives f hf).2
    cases hv : v.link <;> rw [hv] at hl hdrives
    · exact hdrives
    · cases hl
    · cases hl
    · exact hdrives

/-- Outside TRAINING and UP nothing is received (R127, R137). -/
theorem LineView.Sound.unheard {v : LineView} (h : v.Sound) (hl : v.link.joined = false) : v.receiving = false :=
  Bool.eq_false_iff.2 fun hr => nomatch hl.symm.trans (h.receives hr).2

/-- Nothing is received on a line without a peer frame (R127). -/
theorem LineView.Sound.deaf {v : LineView} (h : v.Sound) (hb : v.busy = false) : v.receiving = false :=
  Bool.eq_false_iff.2 fun hr => by simp [(h.receives hr).1] at hb

/-- The link is left, or leaves DISABLED or DOWN, with nothing driven and nothing received (R105, R137, R156). -/
theorem LineView.Kept.leave {v : LineView} {l : Link} (hl : ∀ u, l ≠ .up u) (hi : v.Sound → v.inReset = false) :
    v.Kept { v with link := l, drives := none, receiving := false } :=
  ⟨fun h => ⟨nofun, fun u hu => absurd hu (hl u), nofun, h.apart, fun hr => by cases (hi h).symm.trans hr⟩,
    fun _ _ u hu => absurd hu (hl u)⟩

/-- The training context changes. -/
theorem LineView.Kept.train {v : LineView} {t : Training} (t' : Training) (hl : v.link = .training t) :
    v.Kept { v with link := .training t' } := by
  refine ⟨fun h => ⟨fun f hf => ?_, nofun, fun hr => ⟨(h.receives hr).1, rfl⟩, h.apart, fun hr => ?_⟩, nofun⟩
  · have hdrives := h.drives f hf
    rwa [hl] at hdrives
  · have hd := (h.reset hr).1
    rw [hl] at hd
    cases hd

/-- The turn state changes while the part drives what it drove. -/
theorem LineView.Kept.turn {v : LineView} {u : Turn} (u' : Turn) (hu : v.link = .up u)
    (hdrives : v.Sound → v.drives = none ∨ u'.sub = .hold)
    (hlistens : v.Sound → v.busy = true → u'.sub = .listen ∧ u'.silence = .held)
    (htimed : v.Sound → u.Timed v.burst v.drives → u'.Timed v.burst v.drives) :
    v.Kept { v with link := .up u' } := by
  refine ⟨fun h => ⟨fun f hf => ?_, fun w hw hb => ?_, fun hr => ⟨(h.receives hr).1, rfl⟩, h.apart, fun hr => ?_⟩,
    fun h ht w hw => ?_⟩
  · obtain ⟨hb, hd⟩ := h.drives f hf
    rw [hu] at hd
    have hhold : u'.sub = .hold := (hdrives h).resolve_left (by rw [hf]; exact nofun)
    exact ⟨hb, hhold, hd.2⟩
  · cases hw
    exact hlistens h hb
  · have hd := (h.reset hr).1
    rw [hu] at hd
    cases hd
  · cases hw
    exact htimed h (ht u hu)

/-- A frame starts in HOLD (R103, R106). -/
theorem LineView.Kept.start {v : LineView} {u : Turn} (u' : Turn) {f : FrameType} (hu : v.link = .up u)
    (hsub : u.sub = .hold) (hsub' : u'.sub = .hold) (hf : f = .data ∨ f = .ctrl)
    (htimed : u.Timed v.burst v.drives → u'.Timed v.burst (some f)) :
    v.Kept { v with link := .up u', drives := some f } := by
  refine ⟨fun h => ⟨fun g hg => ?_, fun w hw hb => ?_, fun hr => ⟨(h.receives hr).1, rfl⟩, h.apart, fun hr => ?_⟩,
    fun h ht w hw => ?_⟩
  · cases hg
    exact ⟨h.free hu (.inl (by simp [hsub])), hsub', hf⟩
  · cases (h.free hu (.inl (by simp [hsub]))).symm.trans hb
  · have hd := (h.reset hr).1
    rw [hu] at hd
    cases hd
  · cases hw
    exact htimed (ht u hu)

/-- The part stops driving the line (R105). -/
theorem LineView.Kept.cut (v : LineView) : v.Kept { v with drives := none } :=
  ⟨fun h => { h with drives := nofun }, fun _ ht u hu =>
    have h := ht u hu
    { h with hold := fun hsub =>
        have ⟨hg, hs, hd⟩ := h.hold hsub
        ⟨hg, hs, fun hdw => ⟨(hd hdw).1, rfl⟩⟩ }⟩

/-- The link goes from TRAINING to UP while nothing is on the line (R110, R163). -/
theorem LineView.Kept.goUp {v : LineView} {t : Training} {u : Turn} (hl : v.link = .training t)
    (hd : v.drives = none) (hb : v.busy = false) (hu : u.Timed v.burst none) : v.Kept { v with link := .up u } := by
  refine ⟨fun h => ⟨?_, fun w _ hb' => ?_, fun hr => ⟨(h.receives hr).1, rfl⟩, h.apart, fun hr => ?_⟩,
    fun _ _ w hw => ?_⟩
  · simp [hd]
  · cases hb.symm.trans hb'
  · have hd := (h.reset hr).1
    rw [hl] at hd
    cases hd
  · cases hw
    rw [hd]
    exact hu

/-- A peer frame is on the line outside UP, received where the link is in TRAINING (R117, R127). -/
theorem LineView.Kept.taken {v : LineView} (rx : Bool) (hd : v.drives = none) (hup : ∀ u, v.link ≠ .up u)
    (hrx : rx = true → v.link.joined = true) : v.Kept { v with busy := true, met := false, receiving := rx } := by
  refine ⟨fun h => ⟨?_, fun u hu => absurd hu (hup u), fun hr => ⟨rfl, hrx hr⟩, fun _ => rfl, fun hr => ?_⟩,
    fun _ => id⟩
  · simp [hd]
  · have hl := (h.reset hr).1
    refine ⟨hl, Bool.eq_false_iff.2 fun hrx' => ?_⟩
    have hj := hrx hrx'
    rw [hl] at hj
    cases hj

/-- A peer frame is received in UP, in LISTEN with the silence timer held (R111, R116, R117). -/
theorem LineView.Kept.received {v : LineView} {u : Turn} (hd : v.drives = none) (hu : v.link = .up u) :
    v.Kept { v with link := .up u.toListenHeld, busy := true, met := false, receiving := true } := by
  refine ⟨fun h => ⟨?_, fun w hw _ => ?_, fun _ => ⟨rfl, rfl⟩, fun _ => rfl, fun hr => ?_⟩, fun _ ht w hw => ?_⟩
  · simp [hd]
  · cases hw
    exact ⟨rfl, rfl⟩
  · have hl := (h.reset hr).1
    rw [hu] at hl
    cases hl
  · cases hw
    exact { ht u hu with hold := nofun, guard := nofun, listen := fun _ => ⟨rfl, rfl, nofun⟩ }

/-- A peer frame meets this node's own (R116, R121). -/
theorem LineView.Kept.contest {v : LineView} {f : FrameType} (hd : v.drives = some f) :
    v.Kept { v with met := true } :=
  ⟨fun h => { h with apart := fun hb => by cases hb.symm.trans (h.drives f hd).1 }, fun _ => id⟩

/-- The line returns to idle (R117, R130). -/
theorem LineView.Kept.release (v : LineView) : v.Kept { v with busy := false, met := false, receiving := false } :=
  ⟨fun h => ⟨fun f hf => ⟨rfl, (h.drives f hf).2⟩, nofun, nofun, nofun, fun hr => ⟨(h.reset hr).1, rfl⟩⟩, fun _ => id⟩

/-! ### The line under each operation -/

@[simp] theorem State.setLink_line (l : Link) (s : State) : (s.setLink l).line = { s.line with link := l } := rfl
@[simp] theorem State.raise_line (k : EventKind) (s : State) : (s.raise k).line = s.line := rfl
@[simp] theorem State.count_line (c : DevCounter) (s : State) : (s.count c).line = s.line := rfl
@[simp] theorem State.reach_line (n : Nat) (s : State) : (s.reach n).line = s.line := rfl
@[simp] theorem State.raiseNak_line (r : NakReason) (s : State) : (s.raiseNak r).line = s.line := rfl
@[simp] theorem State.cutFrame_line (s : State) : s.cutFrame.line = { s.line with drives := none } := rfl
@[simp] theorem State.transmit_line (h : Header) (f : FrameType) (b : List Byte) (s : State) :
    (s.transmit h f b).line = { s.line with drives := some f } := rfl
@[simp] theorem State.buildCtrl_line (turn : Bool) (s : State) :
    (s.buildCtrl turn).line = { s.line with drives := some .ctrl } := rfl
@[simp] theorem State.lineContested_line (s : State) : s.lineContested.line = { s.line with met := true } := rfl
@[simp] theorem State.lineTaken_line (s : State) : s.lineTaken.line = { s.line with busy := true, met := false } := rfl
@[simp] theorem State.lineReleased_line (s : State) :
    s.lineReleased.line = { s.line with busy := false, met := false } := rfl

@[simp] theorem State.setRecords_line (rs : List Record) (s : State) : (s.setRecords rs).line = s.line := by
  simp [State.line]

@[simp] theorem State.buildData_line (turn : Bool) (s : State) :
    (s.buildData turn).line = { s.line with drives := some .data } := by
  simp only [State.buildData, State.transmit_line, State.setRecords_line]

theorem State.finishFrame_line (f : TxFrame) (s : State) :
    (s.finishFrame f).line = { s.line with drives := none } := by
  unfold State.finishFrame
  split <;> rfl

theorem State.ackCheck_line (s : State) : s.ackCheck.line = s.line := by simp [State.line]

theorem Lnc.fallen_ne_up (l : Lnc) (now : Nat) (u : Turn) : l.fallen now ≠ .up u := by
  unfold Lnc.fallen
  split <;> exact nofun

theorem State.goDown_line {c : DownCause} {s : State} (h : s.lnc.link.joined = true) :
    (s.goDown c).line = { s.line with link := s.lnc.fallen s.now, drives := none, receiving := false } := by
  rw [State.goDown_joined c s h]
  rfl

theorem State.goDown_kept (c : DownCause) (s : State) : s.line.Kept (s.goDown c).line := by
  cases hj : s.lnc.link.joined with
  | false => rw [State.goDown_apart c s hj]; exact .refl _
  | true =>
    rw [State.goDown_line hj]
    exact .leave (Lnc.fallen_ne_up _ _) fun h => h.awake fun hd => by
      rw [show s.lnc.link = .disabled from hd] at hj
      cases hj

/-! ### This node's turns -/

theorem State.answerOpportunity_kept {s : State} {u : Turn} (hu : s.lnc.link = .up u)
    (hopp : s.opportunity u = true) : s.line.Kept (s.answerOpportunity u).line := by
  simp only [State.opportunity, Bool.and_eq_true, decide_eq_true_eq] at hopp
  obtain ⟨⟨⟨⟨hsub, -⟩, hburst⟩, -⟩, -⟩ := hopp
  have hstart : ∀ (turn : Bool) (f : FrameType), f = .data ∨ f = .ctrl →
      s.line.Kept { s.line with link := .up (u.frameStarted turn), drives := some f } := fun turn f hf =>
    .start _ hu hsub hsub hf fun ht => { ht with
      hold := fun h => ⟨(ht.hold h).1, (ht.hold h).2.1, nofun⟩
      listen := fun h => by cases hsub.symm.trans h
      guard := fun h => by cases hsub.symm.trans h
      frames := hburst }
  unfold State.answerOpportunity
  dsimp only
  split
  · split
    · exact s.goDown_kept _
    · rw [State.setLink_line, State.buildData_line]
      exact hstart _ .data (.inl rfl)
  · exact hstart _ .ctrl (.inr rfl)

/-- LISTEN as a turn state: the silence timer alone runs (R117). -/
theorem Turn.toListen_timed {burst : Nat} {u : Turn} (now silence : Nat) (drives : Option FrameType)
    (h : u.Counted burst) : (u.toListen now silence).Timed burst drives :=
  ⟨⟨h.frames, h.missed, h.collisions⟩, nofun, fun _ => ⟨rfl, rfl, nofun⟩, nofun⟩

/-- GUARD as a turn state: the guard timer alone runs (R111). -/
theorem Turn.toGuard_timed {burst : Nat} {u : Turn} (now bits : Nat) (drives : Option FrameType)
    (h : u.Counted burst) : (u.toGuard now bits).Timed burst drives :=
  ⟨⟨h.frames, h.missed, h.collisions⟩, nofun, nofun, fun _ => ⟨nofun, rfl, rfl⟩⟩

theorem Turn.fresh_counted (burst : Nat) : Turn.fresh.Counted burst := ⟨Nat.zero_le _, by decide, by decide⟩

theorem State.turn_some {s : State} {u : Turn} (h : s.turn = some u) : s.lnc.link = .up u := by
  unfold State.turn at h
  cases hl : s.lnc.link <;> rw [hl] at h <;> cases h
  rfl

/-- The end of this node's frame (R105, R110, R115, R123, R160, R163). -/
theorem State.afterFrame_kept {s : State} {f : TxFrame} (hd : s.line.drives = none) (hb : s.line.busy = false) :
    s.line.Kept (s.afterFrame f).line := by
  unfold State.afterFrame
  split
  · next u hl =>
    refine .turn _ hl (fun _ => .inl hd) (fun _ hb' => by cases hb.symm.trans hb') fun _ ht => ?_
    have hzero : 0 < 4 := by decide
    split
    · exact Turn.toListen_timed _ _ _ ⟨ht.frames, ht.missed, hzero⟩
    · exact { ht with collisions := hzero }
  · next t hl _ =>
    split
    · exact .train _ hl
    · exact .refl _
  · next t hl _ => exact .goUp hl hd hb (Turn.toListen_timed _ _ _ (Turn.fresh_counted _))
  all_goals exact .refl _

theorem State.completeFrame_kept (s t : State) (h : s.completeFrame = some t) : s.line.Kept t.line := by
  unfold State.completeFrame at h
  split at h <;> cases h
  next f hf =>
  refine .of_sound fun hs => ?_
  have hb : s.lnc.lineBusy = false := (hs.drives f.type (by simp [State.line, hf])).1
  have hcut : s.line.Kept ((s.reach (f.start + bitsToUs f.lineBits)).finishFrame f).line := by
    rw [State.finishFrame_line]
    exact .cut _
  refine hcut.trans (State.afterFrame_kept ?_ ?_) <;> rw [State.finishFrame_line]
  exact hb

theorem State.collide_kept (s t : State) (h : s.collide = some t) : s.line.Kept t.line := by
  unfold State.collide at h
  split at h <;> cases h
  next u f hturn hf =>
  have hu := State.turn_some hturn
  have hf : s.line.drives = some f.type := by simp [State.line, hf]
  refine .of_sound fun hs => ?_
  have hb := (hs.drives _ hf).1
  have hcut : s.line.Kept { s.line with met := true, drives := none } := (LineView.Kept.contest hf).trans (.cut _)
  refine hcut.trans ?_
  split
  · next hless =>
    unfold State.backOff
    split
    · exact .turn _ hu (fun _ => .inl rfl) (fun _ hb' => by cases hb.symm.trans hb') fun _ ht =>
        Turn.toGuard_timed _ _ _ ⟨ht.frames, ht.missed, hless⟩
    · exact .turn _ hu (fun _ => .inl rfl) (fun _ hb' => by cases hb.symm.trans hb') fun _ ht =>
        Turn.toListen_timed _ _ _ ⟨ht.frames, ht.missed, hless⟩
  · rw [State.goDown_line rfl]
    exact .leave (Lnc.fallen_ne_up _ _) fun h => h.awake (by simp [State.line, hu])

theorem State.expireGuard_kept (s t : State) (h : s.expireGuard = some t) : s.line.Kept t.line := by
  unfold State.expireGuard at h
  split at h
  · cases h
  · next u hturn =>
    have hu := State.turn_some hturn
    split at h <;> cases h
    next g hsub hg =>
    rw [State.enterHold, State.setLink_line, State.ackCheck_line]
    refine .turn _ hu (fun _ => .inr rfl) (fun hs hb => ?_) fun hs ht => ?_
    · cases (hs.free hu (.inl (by simp [hsub]))).symm.trans hb
    · exact ⟨⟨Nat.zero_le _, ht.missed, ht.collisions⟩,
        fun _ => ⟨rfl, rfl, fun _ => ⟨rfl, hs.idle hu (by simp [hsub])⟩⟩, nofun, nofun⟩

theorem State.expireDwell_kept {s : State} (hburst : 1 ≤ s.lnc.params.burst) (t : State)
    (h : s.expireDwell = some t) : s.line.Kept t.line := by
  unfold State.expireDwell at h
  split at h
  · cases h
  · next u hturn =>
    have hu := State.turn_some hturn
    split at h <;> cases h
    next d hsub hd hf =>
    refine .start _ hu hsub hsub (.inr rfl) fun ht => ?_
    obtain ⟨hg, hs, hdwell⟩ := ht.hold hsub
    have hfirst : u.frames = 0 := (hdwell (by simp [hd])).1
    have hone : u.frames + 1 ≤ s.lnc.params.burst := by omega
    exact ⟨⟨hone, ht.missed, ht.collisions⟩, fun _ => ⟨hg, hs, fun hnone => absurd rfl hnone⟩,
      fun hl => (nomatch hsub.symm.trans hl), fun hl => (nomatch hsub.symm.trans hl)⟩

theorem State.expireSilence_kept (s t : State) (h : s.expireSilence = some t) : s.line.Kept t.line := by
  unfold State.expireSilence at h
  split at h
  · cases h
  · next u hturn =>
    have hu := State.turn_some hturn
    split at h <;> cases h
    next d hsub hd =>
    split
    · next hless =>
      refine .turn _ hu (fun hs => .inl (hs.idle hu (by simp [hsub]))) (fun hs hb => ?_) fun _ ht =>
        Turn.toGuard_timed _ _ _ ⟨ht.frames, hless, ht.collisions⟩
      cases (hs.free hu (.inr (by simp [hd]))).symm.trans hb
    · rw [State.goDown_line rfl]
      exact .leave (Lnc.fallen_ne_up _ _) fun h => h.awake (by simp [State.line, hu])

/-! ### The peer's frames -/

theorem State.detectMark_kept (s t : State) (h : s.detectMark = some t) : s.line.Kept t.line := by
  unfold State.detectMark at h
  split at h
  · cases h
  · next hb =>
    split at h
    · next hf =>
      cases h
      obtain ⟨f, hf⟩ := Option.isSome_iff_exists.1 hf
      exact .contest (f := f.type) (by simp [State.line, hf])
    · next hf =>
      have hd : s.line.drives = none := by simpa [State.line] using hf
      dsimp only at h
      split at h
      · next hl =>
        cases h
        exact .taken true hd (by simp [State.line, hl]) fun _ => by simp [State.line, hl, Link.joined]
      · next u hl => cases h; exact .received hd hl
      all_goals
        next hl =>
        cases h
        exact .of_sound fun hs => .taken s.frx.rx.isSome hd (by simp [State.line, hl]) fun hr => (hs.receives hr).2

theorem State.headerTurn_kept (h : Header) (s : State) (hb : s.line.busy = true) :
    s.line.Kept (s.headerTurn h).line := by
  unfold State.headerTurn
  split
  · next u hl =>
    split
    · have hzero : 0 < 4 := by decide
      exact .turn _ hl (fun hs => .inl (hs.silent hb)) (fun hs _ => hs.listens u hl hb) fun _ ht =>
        { ht with missed := hzero }
    · exact .refl _
  · exact .refl _

theorem State.headerAck_line (h : Header) (s : State) : (s.headerAck h).line = s.line := by
  unfold State.headerAck
  split <;> simp [State.line]

theorem State.acksOfHeader_kept (h : Header) (s : State) (hb : s.line.busy = true) :
    s.line.Kept (s.acksOfHeader h).line := by
  have hsame : (((s.confirmSession.headerAck h).holdsAplAck h.aplAck).sweepAplAck h.aplAck).line = s.line := by
    have hack := State.headerAck_line h s.confirmSession
    simp only [State.line, LineView.mk.injEq] at hack ⊢
    simpa [State.confirmSession] using hack
  have hturn := State.headerTurn_kept h (((s.confirmSession.headerAck h).holdsAplAck h.aplAck).sweepAplAck h.aplAck)
    (by rw [hsame]; exact hb)
  rw [hsame] at hturn
  exact hturn

theorem State.actOnHeader_kept (h : Header) (s : State) (hb : s.line.busy = true) :
    s.line.Kept (s.actOnHeader h).line := by
  unfold State.actOnHeader
  split
  · split
    · exact s.acksOfHeader_kept h hb
    · exact s.acksOfHeader_kept h hb
    · split
      · exact .refl _
      · exact s.goDown_kept _
    · exact .refl _
    · exact .refl _
  · exact .refl _

theorem State.receiveHeader_kept (bytes : List Byte) (s t : State) (h : s.receiveHeader bytes = some t) :
    s.line.Kept t.line := by
  unfold State.receiveHeader at h
  split at h
  · next hrx =>
    have hreceiving : s.line.receiving = true := by simp [State.line, hrx.1]
    refine .of_sound fun hs => ?_
    split at h <;> cases h
    · refine .trans (.of_eq ?_) (State.actOnHeader_kept _ _ (hs.receives hreceiving).1)
      simp [State.line, hrx.1]
    · exact .of_eq (by simp [State.line, hrx.1])
  · cases h

@[simp] theorem State.acceptData_line (h : Header) (body : List Byte) (s : State) :
    (s.acceptData h body).line = s.line := by
  unfold State.acceptData State.acceptInOrder
  dsimp only
  repeat' split
  all_goals rfl

theorem State.handover_kept (h : Header) (s : State) (hd : s.line.drives = none) (hb : s.line.busy = false) :
    s.line.Kept (s.handover h).line := by
  unfold State.handover
  split
  · next u hl =>
    split
    · exact .turn _ hl (fun _ => .inl hd) (fun _ hb' => by cases hb.symm.trans hb') fun _ ht =>
        Turn.toGuard_timed _ _ _ ht.toCounted
    · exact .refl _
  · exact .refl _

/-! ### Training -/

@[simp] theorem State.recordWindow_line (w : Nat) (s : State) : (s.recordWindow w).line = s.line := rfl

@[simp] theorem State.applySession_line (d : Decision) (e : Seq) (s : State) : (s.applySession d e).line = s.line := by
  cases d with
  | newSession =>
    obtain ⟨hlnc, hftx, -, hreset, -⟩ := s.sessionNew.blocksNew_rest
    rw [State.applySession_newSession, State.line, hlnc, hftx, hreset, State.blocksNew_frx]
    rfl
  | resume => simp [State.line, State.applySession]

theorem State.helloAtPrimary_kept {t : Training} {s : State} (h : Header) (b : HelloBody)
    (hl : s.lnc.link = .training t) : s.line.Kept (s.helloAtPrimary t h b).line := by
  unfold State.helloAtPrimary
  split
  · split
    · change s.line.Kept { ((s.recordWindow b.window).applySession (s.sessionDecision h.fresh b) b.expected).line with
        link := _ }
      rw [State.applySession_line]
      exact .train _ hl
    · exact .refl _
  · exact .refl _
  · exact State.goDown_kept _ (s.recordWindow b.window)
  · exact .refl _

theorem State.helloAtSecondary_kept {t : Training} {s : State} (h : Header) (b : HelloBody)
    (hl : s.lnc.link = .training t) : s.line.Kept (s.helloAtSecondary t h b).line := by
  unfold State.helloAtSecondary
  split
  · exact .train _ hl
  · exact .refl _
  · exact .refl _

theorem State.startAtSecondary_kept {t : Training} {s : State} (d : Decision) (hl : s.lnc.link = .training t)
    (hd : s.line.drives = none) (hb : s.line.busy = false) : s.line.Kept (s.startAtSecondary t d).line := by
  unfold State.startAtSecondary
  split
  · next e _ _ =>
    dsimp only
    rw [State.goUp, State.raise_line, State.setLink_line, State.applySession_line]
    exact .goUp hl hd hb (Turn.toGuard_timed _ _ _ (Turn.fresh_counted _))
  · exact .refl _

theorem State.trainingFrame_kept {t : Training} {s : State} (h : Header) (body : List Byte)
    (hl : s.lnc.link = .training t) (hd : s.line.drives = none) (hb : s.line.busy = false) :
    s.line.Kept (s.trainingFrame t h body).line := by
  unfold State.trainingFrame
  split
  · split
    · exact .refl _
    · next b _ =>
      split
      · exact State.helloAtPrimary_kept h b hl
      · exact State.helloAtPrimary_kept h b hl
      · exact State.helloAtSecondary_kept h b hl
      · exact State.helloAtSecondary_kept h b hl
      · exact State.helloAtSecondary_kept h b hl
  · split
    · exact .refl _
    · exact State.startAtSecondary_kept _ hl hd hb
  all_goals exact .refl _

/-! ### The end of a frame -/

theorem State.restartSilence_kept (s : State) (hb : s.line.busy = false) : s.line.Kept s.restartSilence.line := by
  unfold State.restartSilence
  split
  · next u hl =>
    split
    · next hsub =>
      exact .turn _ hl (fun hs => .inl (hs.idle hl (by simp [hsub]))) (fun _ hb' => by cases hb.symm.trans hb')
        fun _ ht => Turn.toListen_timed _ _ _ ht.toCounted
    · exact .refl _
  · exact .refl _

/-- A restart of the silence timer changes the link state alone of the line. -/
theorem State.restartSilence_line (s : State) :
    s.restartSilence.line = { s.line with link := s.restartSilence.lnc.link } := by
  unfold State.restartSilence
  split
  · split <;> rfl
  · rfl

/-- The line is released while nothing is received. -/
theorem State.lineReleased_kept (s : State) (hrx : s.line.Sound → s.line.receiving = false) :
    s.line.Kept s.lineReleased.line := by
  refine .of_sound fun hs => ?_
  have hreleased : s.lineReleased.line = { s.line with busy := false, met := false, receiving := false } :=
    congrArg (LineView.mk _ _ _ _ _ · _) (hrx hs)
  rw [hreleased]
  exact .release _

theorem State.lineReturns_kept (s : State) : s.line.Kept s.lineReturns.line :=
  .trans (w := { s.line with busy := false, met := false, receiving := false }) (.release _)
    (State.restartSilence_kept { s.lineReleased with frx := { s.frx with rx := none } } rfl)

theorem State.endOfFrame_kept (h : Header) (rest : List Byte) (s : State) (hd : s.line.drives = none)
    (hb : s.line.busy = false) : s.line.Kept (s.endOfFrame h rest).line := by
  unfold State.endOfFrame
  split
  · split
    · have hsame := State.acceptData_line h rest s
      exact .trans (.of_eq hsame) (State.handover_kept h _ (by rw [hsame]; exact hd) (by rw [hsame]; exact hb))
    · exact s.handover_kept h hd hb
    all_goals exact .refl _
  · next t hl =>
    split
    · exact State.trainingFrame_kept h rest hl hd hb
    · exact .refl _
  · exact .refl _
  · exact .refl _

theorem State.receiveEnd_kept (rest : List Byte) (s t : State) (h : s.receiveEnd rest = some t) :
    s.line.Kept t.line := by
  unfold State.receiveEnd at h
  refine .of_sound fun hs => ?_
  split at h
  · next hbusy =>
    have hd : s.lineReturns.line.drives = none := by
      rw [State.lineReturns, State.restartSilence_line]
      exact hs.silent hbusy
    have hb : s.lineReturns.line.busy = false := by rw [State.lineReturns, State.restartSilence_line]; rfl
    dsimp only at h
    split at h <;> cases h
    · exact s.lineReturns_kept
    · exact s.lineReturns_kept
    · exact s.lineReturns_kept
    · exact s.lineReturns_kept.trans (State.endOfFrame_kept _ rest _ hd hb)
  · next hfree =>
    unfold State.unheardEnd at h
    split at h <;> cases h
    have hdeaf : s.line.receiving = false := hs.deaf (Bool.eq_false_iff.2 hfree)
    exact (s.lineReleased_kept fun _ => hdeaf).trans (State.restartSilence_kept _ rfl)

/-! ### Training timers -/

theorem State.training_some {s : State} {t : Training} (h : s.training = some t) : s.lnc.link = .training t := by
  unfold State.training at h
  cases hl : s.lnc.link <;> rw [hl] at h <;> cases h
  rfl

/-- The link enters TRAINING from a state in which nothing is driven or received (R159, R160). -/
theorem State.enterTraining_kept (s : State) (hl : s.lnc.link.joined = false) (hi : s.line.Sound → s.inReset = false) :
    s.line.Kept s.enterTraining.line := by
  refine .of_sound fun hs => ?_
  have hleave := LineView.Kept.leave (l := .training (s.lnc.trainingStart s.now)) nofun hi
  rwa [← hs.unheard hl, ← hs.undriven hl] at hleave

theorem State.expireRetrain_kept (s t : State) (h : s.expireRetrain = some t) : s.line.Kept t.line := by
  unfold State.expireRetrain at h
  split at h <;> cases h
  next d hl =>
  exact State.enterTraining_kept (s.reach d.due) (by simp [hl, Link.joined])
    fun hs => hs.awake (by simp [State.line, hl])

theorem State.expireHello_kept (s t : State) (h : s.expireHello = some t) : s.line.Kept t.line := by
  unfold State.expireHello at h
  split at h
  · cases h
  · next w hw =>
    split at h <;> cases h
    exact .train _ (State.training_some hw)

theorem State.expireTrainingGuard_kept (phase : Phase) (want : TrainFrame) (s t : State)
    (h : s.expireTrainingGuard phase want = some t) : s.line.Kept t.line := by
  unfold State.expireTrainingGuard at h
  split at h
  · cases h
  · next w hw =>
    split at h
    · cases h
    · split at h <;> cases h
      exact .train _ (State.training_some hw)

theorem State.expireTraining_kept (s t : State) (h : s.expireTraining = some t) : s.line.Kept t.line := by
  unfold State.expireTraining at h
  split at h <;> cases h
  exact State.goDown_kept _ (s.reach _)

/-! ### The reactions that follow an event -/

/-- A training frame starts on the idle line (R159, R160, R163). -/
theorem LineView.Kept.call {v : LineView} {t : Training} (t' : Training) {f : FrameType} (hl : v.link = .training t)
    (hb : v.busy = false) (hf : f = .hello ∨ f = .start) :
    v.Kept { v with link := .training t', drives := some f } := by
  have hkept := LineView.Kept.train t' hl
  refine ⟨fun h => { hkept.sound h with drives := fun g hg => ?_ }, nofun⟩
  cases hg
  exact ⟨hb, hf⟩

theorem State.dwellCheck_kept (s : State) : s.line.Kept s.dwellCheck.line := by
  unfold State.dwellCheck
  split
  · next u hl =>
    split
    · next h =>
      refine .turn _ hl (fun _ => .inr h.1) (fun hs hb => ?_) fun _ ht => { ht with
        hold := fun hsub => ⟨(ht.hold hsub).1, (ht.hold hsub).2.1, fun hnone => absurd rfl hnone⟩
        listen := fun hsub => ⟨(ht.listen hsub).1, rfl, (ht.listen hsub).2.2⟩
        guard := fun hsub => ⟨(ht.guard hsub).1, rfl, (ht.guard hsub).2.2⟩ }
      cases (hs.free hl (.inl (by simp [h.1]))).symm.trans hb
    · exact .refl _
  · exact .refl _

/-- Something to send ends the dwell (R114). -/
theorem State.dwellCheck_dwellIdle (s : State) : s.dwellCheck.DwellIdle := by
  intro u hu hsub hd
  unfold State.dwellCheck at hu ⊢
  split at hu
  · next w hw =>
    split at hu
    · cases hu
      exact absurd rfl hd
    · next h =>
      cases hw.symm.trans hu
      rw [if_neg h]
      simpa [hsub, Option.isSome_iff_ne_none, hd] using h
  · next h => exact absurd hu (h u)

theorem State.sendWanted_kept (s : State) : s.line.Kept s.sendWanted.line := by
  unfold State.sendWanted
  split
  · next t hl =>
    split
    · next hidle =>
      simp only [State.lineIdle, Bool.and_eq_true, Bool.not_eq_true'] at hidle
      have hb : s.line.busy = false := hidle.1.1
      split
      · exact .call _ hl hb (.inl rfl)
      · exact .call _ hl hb (.inl rfl)
      · exact .call _ hl hb (.inr rfl)
      · exact .refl _
      · exact .refl _
    · exact .refl _
  · exact .refl _

/-- A training frame starts in TRAINING alone (R159). -/
theorem State.sendWanted_dwellIdle {s : State} (h : s.DwellIdle) : s.sendWanted.DwellIdle := by
  cases hl : s.lnc.link with
  | training t =>
    intro u hu
    unfold State.sendWanted at hu
    rw [hl] at hu
    dsimp only at hu
    repeat' split at hu
    all_goals simp [State.setLink, hl] at hu
  | _ =>
    have hsame : s.sendWanted = s := by simp only [State.sendWanted, hl]
    rw [hsame]
    exact h

/-- What follows an event keeps the laws of the line, and ends the dwell when there is something to send. -/
theorem State.settle_kept (s : State) : s.line.Kept s.settle.line ∧ s.settle.DwellIdle := by
  have hsame : s.acceptPresented.stallCheck.applyRun.sweepTake.line = s.line := by simp [State.line]
  refine ⟨?_, State.sendWanted_dwellIdle (State.dwellCheck_dwellIdle _)⟩
  have hdwell := State.dwellCheck_kept s.acceptPresented.stallCheck.applyRun.sweepTake
  rw [hsame] at hdwell
  exact hdwell.trans (State.sendWanted_kept _)

/-- The laws of the line, kept over a command. -/
structure State.LineKept (s t : State) : Prop where
  line : s.lineLaw = true → t.lineLaw = true
  turn : s.lineLaw = true → s.turnLaw = true → t.turnLaw = true

theorem State.LineKept.refl (s : State) : s.LineKept s := ⟨id, fun _ => id⟩

theorem State.LineKept.trans {s t u : State} (h : s.LineKept t) (k : t.LineKept u) : s.LineKept u :=
  ⟨k.line ∘ h.line, fun hs ht => k.turn (h.line hs) (h.turn hs ht)⟩

theorem State.LineKept.of_kept {s t : State} (hline : s.line.Kept t.line) (hidle : s.DwellIdle → t.DwellIdle) :
    s.LineKept t := by
  refine ⟨fun h => ?_, fun h ht => ?_⟩
  · rw [State.lineLaw_iff] at h ⊢
    exact hline.sound h
  · rw [State.lineLaw_iff] at h
    rw [State.turnLaw_iff] at ht ⊢
    exact ⟨hline.timed h ht.1, hidle ht.2⟩

/-- Of an operation on what the laws of the line do not read. -/
theorem State.LineKept.of_apart {s t : State} (hlnc : t.lnc = s.lnc) (hftx : t.ftx = s.ftx) (hfrx : t.frx = s.frx)
    (hreset : t.inReset = s.inReset) (hrecords : t.jnl.records = s.jnl.records) : s.LineKept t := by
  refine .of_kept (.of_eq (by simp [State.line, hlnc, hftx, hfrx, hreset])) fun h u hu => ?_
  have hsend : t.somethingToSend = s.somethingToSend := by
    simp [State.somethingToSend, State.sendable, Jnl.sentCount, Jnl.fromSendPoint, hlnc, hftx, hrecords]
  rw [hsend]
  exact h u (hlnc ▸ hu)

/-- Of an operation after which the link is not UP. -/
theorem State.LineKept.of_down {s t : State} (hline : s.line.Kept t.line) (hup : ∀ u, t.lnc.link ≠ .up u) :
    s.LineKept t :=
  .of_kept hline fun _ u hu => absurd hu (hup u)

theorem State.settle_lineKept {s t : State} (h : s.line.Kept t.line) : s.LineKept t.settle :=
  .of_kept (h.trans t.settle_kept.1) fun _ => t.settle_kept.2

/-- An event keeps the laws of the line when its effect does. -/
theorem State.event_lineKept {f : State → Option State} {s : State} (hf : ∀ t, f s = some t → s.line.Kept t.line) :
    s.LineKept (s.event f) := by
  unfold State.event
  split
  · exact .refl s
  · cases hft : f s with
    | none => exact .refl s
    | some t => exact State.settle_lineKept (hf t hft)

/-! ### The memory path -/

theorem State.answerMalformed_line (s t : State) (h : s.answerMalformed = some t) : t.line = s.line := by
  unfold State.answerMalformed at h
  split at h
  · cases h
  · split at h <;> cases h
    rfl

theorem State.sendResponse_line (tag : Tag) (s t : State) (h : s.sendResponse tag = some t) : t.line = s.line := by
  unfold State.sendResponse at h
  split at h <;> cases h
  rfl

@[simp] theorem State.diverge_line (r : RegionIx) (s : State) : (s.diverge r).line = s.line := by simp [State.line]

theorem State.applyClass_line (c : UpClass) (r : UpRequest) (s : State) : (s.applyClass c r).1.line = s.line := by
  cases c with
  | capture x =>
    simp only [State.applyClass, State.captureWrite]
    split
    · rfl
    · dsimp only
      split <;> simp [State.line]
  | noSpace x path => exact s.diverge_line x
  | _ => rfl

theorem State.grantUp_line (itag : ITag) (s t : State) (h : s.grantUp itag = some t) : t.line = s.line := by
  unfold State.grantUp at h
  split at h
  · split at h
    · cases h
    · next r rest _ =>
      have hclass := State.applyClass_line (s.classify r) r s.popHead
      split at h
      · next heq =>
        rw [heq] at hclass
        split at h <;> cases h
        exact hclass
      · next heq =>
        rw [heq] at hclass
        cases h
        exact hclass
  · cases h

theorem State.grantApl_line (itag : ITag) (s t : State) (h : s.grantApl itag = some t) : t.line = s.line := by
  unfold State.grantApl at h
  split at h
  · split at h <;> cases h
    rfl
  · cases h

theorem State.grantSwp_line (itag : ITag) (s t : State) (h : s.grantSwp itag = some t) : t.line = s.line := by
  unfold State.grantSwp at h
  split at h
  · split at h <;> cases h
    simp [State.line]
  · cases h

theorem State.upAnswer_line (tag : Tag) (path : UpPath) (st : BusStatus) (data : List Byte) (s : State) :
    (s.upAnswer tag path st data).line = s.line := by
  unfold State.upAnswer State.localFault
  cases path with
  | captured held => cases held <;> cases st <;> simp [State.line]
  | _ => rfl

theorem State.upAbandoned_line (path : UpPath) (st : BusStatus) (s : State) :
    (s.upAbandoned path st).line = s.line := by
  unfold State.upAbandoned State.localFault
  cases path with
  | captured held => cases st <;> rfl
  | _ => rfl

theorem State.sweepAnswer_line (q : Seq) (st : BusStatus) (data : List Byte) (s : State) :
    (s.sweepAnswer q st data).line = s.line := by
  unfold State.sweepAnswer State.ownReadAnswer State.otherReadAnswer
  dsimp only
  repeat' split
  all_goals simp [State.line]

theorem State.takeDownstream_line (itag : ITag) (st : BusStatus) (data : List Byte) (s t : State)
    (h : s.takeDownstream itag st data = some t) : t.line = s.line := by
  unfold State.takeDownstream at h
  split at h <;> cases h
  unfold State.deliver
  split
  · split
    · exact State.upAbandoned_line _ st _
    · exact State.upAnswer_line _ _ st data _
  · simp [State.line]
  · split
    · rfl
    · exact State.sweepAnswer_line _ st _ _

theorem State.expireStall_line (s t : State) (h : s.expireStall = some t) : t.line = s.line := by
  unfold State.expireStall at h
  split at h
  · cases h
  · split at h
    · cases h
    · dsimp only at h
      split at h <;> cases h <;> simp [State.line]

theorem State.deadlineExpires_line (tag : Tag) (s t : State) (h : s.deadlineExpires tag = some t) :
    t.line = s.line := by
  unfold State.deadlineExpires at h
  split at h
  · cases h
  · split at h <;> cases h
    simp [State.line]

/-! ### The management port -/

/-- A transaction keeps the laws of the line when its request does, outside RESET. -/
theorem State.transaction_lineKept (t : Transaction) (len : Nat) (run : List Byte → State → Verdict) (s : State)
    (hrun : ∀ p u, u.inReset = false → (run p u).Leads fun v => u.LineKept v ∧ v.inReset = false) :
    s.LineKept (s.transaction t len run) := by
  cases hr : s.inReset with
  | true =>
    have hheld : s.transaction t len run = s := by simp [State.transaction, hr]
    rw [hheld]
    exact .refl s
  | false =>
    have hport : ∀ u v : State, s.LineKept u ∧ u.inReset = false → (v.lnc = u.lnc ∧ v.ftx = u.ftx ∧ v.frx = u.frx ∧
        v.inReset = u.inReset ∧ v.jnl = u.jnl) → s.LineKept v ∧ v.inReset = false := by
      rintro u v ⟨hu, hur⟩ ⟨hl, hf, hx, hi, hj⟩
      exact ⟨hu.trans (.of_apart hl hf hx hi (by rw [hj])), hi.trans hur⟩
    refine (State.transaction_leads (fun u => s.LineKept u ∧ u.inReset = false)
      (fun n m u hu => hport u _ hu ⟨rfl, rfl, rfl, rfl, rfl⟩) (fun st p u hu => hport u _ hu ⟨rfl, rfl, rfl, rfl, rfl⟩)
      (fun u hu => ⟨hu.1.trans (State.settle_lineKept (.refl _)), ?_⟩) t len run (fun p u hu => ?_) s
      ⟨.refl s, hr⟩).1
    · simpa [State.settle] using hu.2
    · have hkept := hrun p u hu.2
      cases hv : run p u with
      | refused st => trivial
      | answered q v => rw [hv] at hkept; exact ⟨hu.1.trans hkept.1, hkept.2⟩
      | acted v => rw [hv] at hkept; exact ⟨hu.1.trans hkept.1, hkept.2⟩

/-- A request that touches nothing the laws of the line read. -/
theorem State.transaction_lineApart (t : Transaction) (len : Nat) (run : List Byte → State → Verdict) (s : State)
    (hrun : ∀ p u, (run p u).Leads fun v => v.lnc = u.lnc ∧ v.ftx = u.ftx ∧ v.frx = u.frx ∧
      v.inReset = u.inReset ∧ v.jnl.records = u.jnl.records) : s.LineKept (s.transaction t len run) := by
  refine s.transaction_lineKept t len run fun p u hr => ?_
  have hkept := hrun p u
  have hapart : ∀ v : State, (v.lnc = u.lnc ∧ v.ftx = u.ftx ∧ v.frx = u.frx ∧ v.inReset = u.inReset ∧
      v.jnl.records = u.jnl.records) → u.LineKept v ∧ v.inReset = false := by
    rintro v ⟨hl, hf, hx, hi, hj⟩
    exact ⟨.of_apart hl hf hx hi hj, hi.trans hr⟩
  cases hv : run p u with
  | refused st => trivial
  | answered q v => rw [hv] at hkept; exact hapart v hkept
  | acted v => rw [hv] at hkept; exact hapart v hkept

theorem State.linkSet_lineKept (p : List Byte) {s : State} (hr : s.inReset = false) :
    (s.linkSet p).Leads fun v => s.LineKept v ∧ v.inReset = false := by
  unfold State.linkSet
  split
  · next hl =>
    split
    · trivial
    · split
      · refine ⟨.of_down ?_ fun u hu => ?_, hr⟩
        · exact ⟨fun h => { h with }, fun _ _ u hu => nomatch hl.symm.trans hu⟩
        · exact nomatch hl.symm.trans hu
      · trivial
  · trivial

theorem State.linkEnable_lineKept {s : State} (hr : s.inReset = false) :
    s.linkEnable.Leads fun v => s.LineKept v ∧ v.inReset = false := by
  unfold State.linkEnable
  split
  · next hl => exact ⟨.of_down (s.enterTraining_kept (by simp [hl, Link.joined]) fun _ => hr) nofun, hr⟩
  · trivial

theorem State.goDisabled_lineKept (s : State) : s.LineKept s.goDisabled := by
  by_cases hl : s.lnc.link = .disabled
  · have hsame : s.goDisabled = s := by simp only [State.goDisabled, hl]
    rw [hsame]
    exact .refl s
  · refine .of_down (.of_sound fun hs => ?_) fun u hu => ?_
    · have hline : s.goDisabled.line = { s.line with link := .disabled, drives := none, receiving := false } := by
        rw [State.goDisabled_eq hl]
        cases hj : s.lnc.link.joined with
        | true => simp [State.line]
        | false =>
          have hdriven : s.line.drives = none := hs.undriven hj
          have hdeaf : s.line.receiving = false := hs.unheard hj
          simpa [State.line] using And.intro hdriven hdeaf
      rw [hline]
      exact .leave nofun fun hs => hs.awake hl
    · rw [State.goDisabled_eq hl] at hu
      cases hu

/-- Falling from UP or TRAINING leaves the link in neither (R156). -/
theorem State.goDown_lineKept (c : DownCause) (s : State) : s.LineKept (s.goDown c) := by
  cases hj : s.lnc.link.joined with
  | false => rw [State.goDown_apart c s hj]; exact .refl s
  | true =>
    refine .of_down (s.goDown_kept c) fun u hu => ?_
    rw [State.goDown_joined c s hj] at hu
    exact Lnc.fallen_ne_up _ _ u hu

theorem State.linkRenew_lineKept (s : State) : s.LineKept s.linkRenew := by
  have hfresh : s.LineKept { s with lnc := { s.lnc with fresh := true } } :=
    .of_kept (.refl _) id
  exact hfresh.trans (State.goDown_lineKept _ _)

/-! ### Every command -/

/-- After RESET the line is not driven, and no link stands (R35). -/
theorem State.resetAsserted_lineKept (s : State) : s.LineKept s.resetAsserted :=
  .of_down ⟨fun h => ⟨nofun, nofun, nofun, h.apart, fun _ => ⟨rfl, rfl⟩⟩, nofun⟩ nofun

/-- A peer frame while RESET is asserted only occupies the line (R35, R117). -/
theorem State.lineTaken_lineKept {s : State} (hr : s.inReset = true) : s.LineKept s.lineTaken := by
  have hdown : s.line.Sound → s.lnc.link = .disabled := fun hs => (hs.reset hr).1
  refine .of_kept (.of_sound fun hs => ?_) id
  exact .taken s.frx.rx.isSome (hs.undriven (by rw [State.line, hdown hs]; rfl))
    (fun u hu => nomatch (hdown hs).symm.trans hu) fun hrx => (hs.receives hrx).2

/-- Every command keeps the laws of the line, given that a turn has room for a frame (R113, R153). -/
theorem exec_lineKept (c : Instr) (s t : State) (hburst : 1 ≤ s.lnc.params.burst) (h : exec c s = .next t) :
    s.LineKept t := by
  have hnext : ∀ {u : State}, (Host.Outcome.next u : Host.Outcome State Fault Refusal) = .next t → s.LineKept u →
      s.LineKept t := by
    intro u hu hk
    cases hu
    exact hk
  have hsame : ∀ {f : State → Option State}, (∀ u, f s = some u → u.line = s.line) → s.LineKept (s.event f) :=
    fun hf => State.event_lineKept fun u hu => .of_eq (hf u hu)
  cases c with
  | upstreamRequest r =>
    refine hnext h (.trans (t := { s with upi := { s.upi with presented := s.upi.presented ++ [r] } })
      (.of_apart rfl rfl rfl rfl rfl) (State.event_lineKept fun u hu => ?_))
    cases hu
    exact .refl _
  | malformedHead => exact hnext h (hsame s.answerMalformed_line)
  | upGrant itag => exact hnext h (hsame (s.grantUp_line itag))
  | aplGrant itag => exact hnext h (hsame (s.grantApl_line itag))
  | swpGrant itag => exact hnext h (hsame (s.grantSwp_line itag))
  | downstreamResponse itag st data => exact hnext h (hsame (s.takeDownstream_line itag st data.toList))
  | upstreamResponse tag => exact hnext h (hsame (s.sendResponse_line tag))
  | stallTimerExpiry => exact hnext h (hsame s.expireStall_line)
  | hostBusReset =>
    change execHostBusReset s = _ at h
    unfold execHostBusReset at h
    split at h
    · exact hnext h (.of_apart rfl rfl rfl rfl rfl)
    · refine hnext h (hsame fun u hu => ?_)
      split at hu <;> cases hu
      rfl
  | hostBusResetRelease =>
    refine hnext h (.trans (t := { s with upi := { s.upi with hostReset := false } })
      (.of_apart rfl rfl rfl rfl rfl) (State.event_lineKept fun u hu => ?_))
    cases hu
    exact .refl _
  | reset => exact hnext h s.resetAsserted_lineKept
  | holdDeadlineExpiry tag => exact hnext h (hsame (s.deadlineExpires_line tag))
  | frameOpportunity =>
    refine hnext h (State.event_lineKept fun u hu => ?_)
    split at hu
    · cases hu
    · next w hturn =>
      split at hu <;> cases hu
      next hopp => exact State.answerOpportunity_kept (State.turn_some hturn) hopp
  | frameCompleted => exact hnext h (State.event_lineKept s.completeFrame_kept)
  | collision => exact hnext h (State.event_lineKept s.collide_kept)
  | guardTimerExpiry => exact hnext h (State.event_lineKept s.expireGuard_kept)
  | dwellTimerExpiry => exact hnext h (State.event_lineKept (State.expireDwell_kept hburst))
  | silenceTimerExpiry => exact hnext h (State.event_lineKept s.expireSilence_kept)
  | frameMarkDetected =>
    change execFrameMarkDetected s = _ at h
    unfold execFrameMarkDetected at h
    split at h
    · next hr => exact hnext h (State.lineTaken_lineKept hr)
    · exact hnext h (State.event_lineKept s.detectMark_kept)
  | headerReceived bytes => exact hnext h (State.event_lineKept (s.receiveHeader_kept bytes))
  | frameEnd rest =>
    change execFrameEnd rest s = _ at h
    unfold execFrameEnd at h
    split at h
    · next hr =>
      exact hnext h (.of_kept (s.lineReleased_kept fun hs => (hs.reset hr).2) id)
    · exact hnext h (State.event_lineKept (s.receiveEnd_kept rest))
  | retrainTimerExpiry => exact hnext h (State.event_lineKept s.expireRetrain_kept)
  | helloTimerExpiry => exact hnext h (State.event_lineKept s.expireHello_kept)
  | replyGuardExpiry => exact hnext h (State.event_lineKept (s.expireTrainingGuard_kept _ _))
  | startGuardExpiry => exact hnext h (State.event_lineKept (s.expireTrainingGuard_kept _ _))
  | trainingTimerExpiry => exact hnext h (State.event_lineKept s.expireTraining_kept)
  | nop t => exact hnext h (State.transaction_lineApart _ _ _ _ fun _ _ => ⟨rfl, rfl, rfl, rfl, rfl⟩)
  | portIdent t => exact hnext h (State.transaction_lineApart _ _ _ _ fun _ _ => ⟨rfl, rfl, rfl, rfl, rfl⟩)
  | regionSet t =>
    refine hnext h (State.transaction_lineApart _ _ _ _ fun p u => withRegion_leads p fun r => ?_)
    split
    · trivial
    · split
      · trivial
      · split
        · exact ⟨rfl, rfl, rfl, rfl, rfl⟩
        · trivial
  | regionEnable t =>
    refine hnext h (State.transaction_lineApart _ _ _ _ fun p u => withRegion_leads p fun r => ?_)
    split
    · trivial
    · split
      · trivial
      · unfold State.enableRegion
        dsimp only [Verdict.Leads]
        split
        · exact ⟨rfl, rfl, rfl, rfl, rfl⟩
        · split <;> exact ⟨rfl, rfl, rfl, rfl, rfl⟩
  | regionDisable t =>
    refine hnext h (State.transaction_lineApart _ _ _ _ fun p u => withRegion_leads p fun r => ?_)
    split <;> exact ⟨rfl, rfl, rfl, rfl, rfl⟩
  | regionResync t =>
    refine hnext h (State.transaction_lineApart _ _ _ _ fun p u => withRegion_leads p fun r => ?_)
    split
    · exact ⟨rfl, rfl, rfl, rfl, rfl⟩
    · trivial
  | regionMode t =>
    refine hnext h (State.transaction_lineApart _ _ _ _ fun p u => withRegion_leads p fun r => ?_)
    split
    · split
      · trivial
      · exact ⟨rfl, rfl, rfl, rfl, rfl⟩
    · trivial
  | regionQuery t =>
    exact hnext h (State.transaction_lineApart _ _ _ _ fun p u =>
      withRegion_leads p fun _ => ⟨rfl, rfl, rfl, rfl, rfl⟩)
  | linkSet t => exact hnext h (State.transaction_lineKept _ _ _ _ fun p _ hr => State.linkSet_lineKept p hr)
  | linkEnable t => exact hnext h (State.transaction_lineKept _ _ _ _ fun _ _ hr => State.linkEnable_lineKept hr)
  | linkDisable t =>
    exact hnext h (State.transaction_lineKept _ _ _ _ fun _ u hr =>
      ⟨u.goDisabled_lineKept, by rw [State.goDisabled_inReset]; exact hr⟩)
  | linkRenew t =>
    exact hnext h (State.transaction_lineKept _ _ _ _ fun _ u hr =>
      ⟨u.linkRenew_lineKept, by rw [State.linkRenew, State.goDown_inReset]; exact hr⟩)
  | linkQuery t => exact hnext h (State.transaction_lineApart _ _ _ _ fun _ _ => ⟨rfl, rfl, rfl, rfl, rfl⟩)
  | journalSet t =>
    refine hnext h (State.transaction_lineApart _ _ _ _ fun p u => ?_)
    unfold State.journalSet
    dsimp only
    split
    · simp [Verdict.Leads]
    · trivial
  | journalQuery t => exact hnext h (State.transaction_lineApart _ _ _ _ fun _ _ => ⟨rfl, rfl, rfl, rfl, rfl⟩)
  | eventQuery t => exact hnext h (State.transaction_lineApart _ _ _ _ fun _ _ => ⟨rfl, rfl, rfl, rfl, rfl⟩)
  | eventAck t => exact hnext h (State.transaction_lineApart _ _ _ _ fun _ _ => ⟨rfl, rfl, rfl, rfl, rfl⟩)
  | eventEnable t => exact hnext h (State.transaction_lineApart _ _ _ _ fun _ _ => ⟨rfl, rfl, rfl, rfl, rfl⟩)
  | counterQuery t =>
    refine hnext h (State.transaction_lineApart _ _ _ _ fun p u => ?_)
    split
    · trivial
    · exact ⟨rfl, rfl, rfl, rfl, rfl⟩
  | counterZero t =>
    refine hnext h (State.transaction_lineApart _ _ _ _ fun p u => ?_)
    split
    · exact ⟨rfl, rfl, rfl, rfl, rfl⟩
    · split
      · trivial
      · next c _ => cases c <;> exact ⟨rfl, rfl, rfl, rfl, rfl⟩
  | undefinedRequest t =>
    change execUndefinedRequest t s = _ at h
    unfold execUndefinedRequest at h
    split at h
    · exact hnext h (.refl s)
    · split at h
      · exact hnext h (.of_apart rfl rfl rfl rfl rfl)
      · split at h
        · exact hnext h (.refl s)
        · exact hnext h (.of_apart rfl rfl rfl rfl rfl)
  | resetRelease =>
    change execResetRelease s = _ at h
    unfold execResetRelease at h
    split at h
    · refine hnext h (State.settle_lineKept ⟨fun hs => { hs with reset := nofun }, fun _ => id⟩)
    · exact hnext h (.refl s)

/-- Every step keeps the laws of the line, given that a turn has room for a frame. -/
theorem step_lineKept (s t : State) (hburst : 1 ≤ s.lnc.params.burst) (h : step s = .next t) : s.LineKept t := by
  unfold step at h
  split at h
  · cases h
    unfold State.tick
    split
    · exact .refl s
    · exact .of_apart rfl rfl rfl rfl rfl
  · next c rest _ =>
    exact .trans (t := { s with pending := rest }) (.of_apart rfl rfl rfl rfl rfl) (exec_lineKept c _ t hburst h)

/-- Settles O60: each operation moves the line from one state of law 12 to another and each turn timer into its
sub-state; the dwell check at the end of an event stops a dwell that has something to send. -/
theorem everyStepKeepsTheLineLaws : Obligations.EveryStepKeepsTheLineLaws := by
  intro s t h hsettings hline
  simp only [State.settingsInRange, Bool.and_eq_true] at hsettings
  obtain ⟨-, -, -, -, ⟨hburst, -⟩, -⟩ := s.lnc.params.inRange_iff.1 hsettings.1
  have hkept := step_lineKept s t hburst h
  exact ⟨hkept.line hline, hkept.turn hline⟩

end Sys2Proof.Machine

namespace Sys2Proof.Machine

/-! ### A frame opportunity without a DATA frame (R102, R106, R113, R156) -/

/-- Nothing is selected when nothing is sendable (R100, R101). -/
theorem State.selection_nil {s : State} (h : s.sendable = false) : s.selection = [] := by
  unfold State.sendable at h
  unfold State.selection
  cases hrec : s.jnl.fromSendPoint with
  | nil => rfl
  | cons r rs =>
    rw [hrec] at h
    refine if_neg fun ⟨hpending, _, hwindow, _⟩ => ?_
    have hlt : s.jnl.sentCount < s.lnc.params.window := hwindow
    simp [sendableAt, hpending, hlt] at h

/-- A frame that takes nothing where nothing is sendable has TURN (R113). -/
theorem State.turnMark_nothing {s : State} (u : Turn) (h : s.sendable = false) : s.turnMark u = true := by
  have hafter : s.sendableAfter = false := by
    rw [State.sendableAfter, State.selection_nil h]
    exact h
  rw [State.turnMark, hafter, Bool.not_false, Bool.or_true]

/-- The CTRL frame of a turn, as a state (R97, R106). -/
theorem State.buildCtrl_eq (turn : Bool) (s : State) : s.buildCtrl turn = { s with
    ftx := { s.ftx with frame := some ⟨.ctrl, turn, s.ftx.pendingNak.isSome, false, s.now,
      [0xD3, 0x5C] ++ encodeHeader ⟨some .ctrl, turn, s.ftx.pendingNak.isSome, false, false, 0, s.ftx.pendingNak, 0, 0,
        s.frx.expected, s.apl.applied⟩⟩ } } := by
  have hreason : (if s.ftx.pendingNak.isSome then s.ftx.pendingNak else none) = s.ftx.pendingNak := by
    cases s.ftx.pendingNak <;> rfl
  simp only [State.buildCtrl, State.transmit, State.header, hreason, List.append_nil]
  rfl

/-- Settles O27: an opportunity without a sendable record builds the CTRL frame, and one with a record at the retry
limit goes DOWN. -/
theorem frameOpportunityBuildsCtrlOrGivesUp : Obligations.FrameOpportunityBuildsCtrlOrGivesUp := by
  intro s u hr hup hsub hframe hburst hsent
  have hopp : s.somethingToSend = true → s.opportunity u = true := fun h => by
    simp [State.opportunity, hsub, hframe, hburst, hsent, h]
  refine ⟨fun q hs hq => ?_, fun hs ⟨r, hr8, hcount⟩ => ?_⟩
  · have hanswer : s.answerOpportunity u = (s.buildCtrl true).setLink (.up (u.frameStarted true)) := by
      simp only [State.answerOpportunity, hs, State.turnMark_nothing u hs, Bool.false_eq_true, if_false]
    rw [exec_frameOpportunity hr hup (hopp (by simp [State.somethingToSend, hq])), hanswer, State.buildCtrl_eq, hq]
    simp only [Turn.frameStarted, Bool.or_true]
    rfl
  · have hlimit : s.selection.any (fun r => decide (Config.sendLimit ≤ r.sendCount)) = true :=
      List.any_eq_true.2 ⟨r, hr8, decide_eq_true hcount⟩
    have hanswer : s.answerOpportunity u = s.goDown .retryLimit := by
      simp only [State.answerOpportunity, hs, hlimit, if_true]
    rw [exec_frameOpportunity hr hup (hopp (by simp [State.somethingToSend, hs])), hanswer,
      State.goDown_joined _ s (by rw [hup]; rfl)]

/-! ### The end of this node's frame (R104, R105, R115, R160, R163) -/

/-- FTX's part: FRAMES_OUT, and a carried NAK is cleared with NAK_SENT (R104, R105). -/
theorem State.finishFrame_eq (f : TxFrame) (s : State) : s.finishFrame f = { s with
    mgp := if f.nak then (s.mgp.count .framesOut).count .nakSent else s.mgp.count .framesOut
    ftx := ⟨if f.nak then none else s.ftx.pendingNak, none⟩ } := by
  unfold State.finishFrame
  cases f.nak <;> rfl

theorem exec_frameCompleted {s : State} {f : TxFrame} (hr : s.inReset = false) (hf : s.ftx.frame = some f) :
    exec .frameCompleted s =
      .next (((s.reach (f.start + bitsToUs f.lineBits)).finishFrame f).afterFrame f).settle :=
  congrArg Host.Outcome.next (State.event_some _ s _ hr (by simp only [State.completeFrame, hf]))

/-- Settles O28: FTX's part, and then LNC's by link state and type of the frame. -/
theorem frameCompletedActs : Obligations.FrameCompletedActs := by
  intro s f hr hf now out mgp ftx
  rw [exec_frameCompleted hr hf, State.finishFrame_eq]
  refine ⟨fun u hl => ?_, fun t hl htype => ?_, fun t hl htype => ?_⟩
  · simp only [State.afterFrame, State.reach, hl]
    rfl
  · simp only [State.afterFrame, State.reach, hl, htype]
    by_cases hreply : f.reply = true ∧ t.phase = .replying
    · rw [if_pos hreply, if_pos hreply]
      rfl
    · rw [if_neg hreply, if_neg hreply, ← hl]
      rfl
  · simp only [State.afterFrame, State.reach, hl, htype]
    rfl

/-! ### The dwell and the silence (R106, R114, R120) -/

/-- A missed turn is counted, and the consecutive count decides between a reclaim and DOWN (R120). -/
theorem exec_silenceTimerExpiry {s : State} {u : Turn} {d : Timer} (hr : s.inReset = false)
    (hup : s.lnc.link = .up u) (hsub : u.sub = .listen) (hd : u.silence = .running d) :
    let v : Turn := { u with missed := u.missed + 1 }
    let t := ((s.reach d.due).count .missedTurns).setLink (.up v)
    exec .silenceTimerExpiry s = .next (State.settle
      (if v.missed < 4 then t.setLink (.up (v.toGuard t.now t.lnc.params.guard)) else t.goDown .missedTurns)) := by
  intro v t
  refine congrArg Host.Outcome.next (State.event_some _ s _ hr ?_)
  simp only [State.expireSilence, State.turn, hup, hsub, hd]
  rfl

theorem exec_dwellTimerExpiry {s : State} {u : Turn} {d : Timer} (hr : s.inReset = false) (hup : s.lnc.link = .up u)
    (hsub : u.sub = .hold) (hd : u.dwell = some d) (hf : s.ftx.frame = none) :
    exec .dwellTimerExpiry s =
      .next (((s.reach d.due).buildCtrl true).setLink (.up (u.frameStarted true))).settle := by
  refine congrArg Host.Outcome.next (State.event_some _ s _ hr ?_)
  simp only [State.expireDwell, State.turn, hup, hsub, hd, hf]

/-- Settles O31: the dwell builds the CTRL frame of the turn; the silence counts a missed turn and compares. -/
theorem dwellAndSilenceExpiry : Obligations.DwellAndSilenceExpiry := by
  intro s u d hr hup now
  refine ⟨fun hsub hd hf hn => ?_, fun hsub hd hm => ?_, fun hsub hd hm => ?_⟩
  · rw [exec_dwellTimerExpiry hr hup hsub hd hf, State.buildCtrl_eq, State.reach_ftx, hn]
    simp only [Turn.frameStarted, Bool.or_true]
    rfl
  · rw [exec_silenceTimerExpiry hr hup hsub hd, if_pos hm]
    rfl
  · rw [exec_silenceTimerExpiry hr hup hsub hd, if_neg (Nat.not_lt.2 hm), State.goDown_joined _ _ rfl]
    rfl

/-! ### A training frame that is wanted (R95, R107, R159, R160, R163) -/

/-- Settles O42: the frame waits while the line is not idle, and starts with the bytes of its kind when it is. -/
theorem wantedTrainingFrameStarts : Obligations.WantedTrainingFrameStarts := by
  refine ⟨fun s hbusy => State.sendWanted_idle fun t _ => .inr ?_, ?_⟩
  · unfold State.lineIdle
    rcases hbusy with h | h | h
    · simp [h]
    · simp [h]
    · simp [Option.isNone_eq_false_iff, Option.isSome_iff_ne_none, h]
  · intro s t hl hb hm hf hello
    have hidle : s.lineIdle = true := by simp [State.lineIdle, hb, hm, hf]
    refine ⟨fun hw => ?_, fun hw => ?_, fun d hw hd => ?_⟩
    · simp only [State.sendWanted, hl, hidle, hw, if_true]
      rfl
    · simp only [State.sendWanted, hl, hidle, hw, if_true]
      rfl
    · simp only [State.sendWanted, hl, hidle, hw, hd, if_true]
      rfl

end Sys2Proof.Machine

namespace Sys2Proof.Machine

/-! ### Bytes and fields on the line (12.1) -/

/-- The byte of a number at a place, most significant first. -/
theorem beBytes_getD (k n i : Nat) (h : i < k) : (beBytes k n).getD i 0 = BitVec.ofNat 8 (n / 256 ^ (k - 1 - i)) := by
  induction k generalizing n with
  | zero => omega
  | succ k ih =>
    rw [beBytes]
    rcases Nat.lt_succ_iff_lt_or_eq.1 h with hi | rfl
    · have hplace : k + 1 - 1 - i = k - 1 - i + 1 := by omega
      rw [List.getD_append _ _ _ _ (by simpa using hi), ih _ hi, Nat.div_div_eq_div_mul, ← Nat.pow_succ', hplace]
    · rw [List.getD_append_right _ _ _ _ (by simp)]
      simp

theorem field_lt (bytes : List Byte) (o w : Nat) : field bytes o w < 256 ^ w := by
  refine (beNat_lt _).trans_le (Nat.pow_le_pow_right (by decide) ?_)
  exact List.length_take_le _ _

theorem seqField_toNat (bytes : List Byte) (o : Nat) : (seqField bytes o).toNat = field bytes o 4 := by
  rw [seqField, BitVec.toNat_ofNat]
  exact Nat.mod_eq_of_lt (field_lt bytes o 4)

/-- A field made of a number's bytes gives the number. -/
theorem field_append_beBytes {pre post : List Byte} {o k n : Nat} (ho : pre.length = o) (hn : n < 256 ^ k) :
    field (pre ++ (beBytes k n ++ post)) o k = n := by
  rw [field, List.drop_left' ho, List.take_left' (beBytes_length k n), beNat_beBytes_of_lt hn]

/-! ### Flags and masks (12_formats) -/

/-- The number that flags spell, flag 0 first. -/
def flagsNumber (f : Nat → Bool) (n : Nat) : Nat := (List.range n).foldl (fun m i => m * 2 + (f i).toNat) 0

theorem flagsNumber_succ (f : Nat → Bool) (n : Nat) : flagsNumber f (n + 1) = flagsNumber f n * 2 + (f n).toNat := by
  simp [flagsNumber, List.range_succ]

theorem flagsNumber_testBit (f : Nat → Bool) {n i : Nat} (h : i < n) : (flagsNumber f n).testBit (n - 1 - i) = f i := by
  induction n with
  | zero => omega
  | succ n ih =>
    have hb := (f n).toNat_lt
    rw [flagsNumber_succ, Nat.add_sub_cancel]
    rcases Nat.lt_succ_iff_lt_or_eq.1 h with hi | rfl
    · have hplace : n - i = n - 1 - i + 1 := by omega
      have hhalf : (flagsNumber f n * 2 + (f n).toNat) / 2 = flagsNumber f n := by omega
      rw [hplace, Nat.testBit_succ, hhalf, ih hi]
    · rw [Nat.sub_self, Nat.testBit_zero]
      cases f i <;> simp

/-- Flag i of a flag byte is bit 7 - i. -/
theorem flagByte_bit (flags : List Bool) {i : Nat} (h : i < 8) :
    (flagByte flags).getLsbD (7 - i) = flags.getD i false := by
  have hbit := flagsNumber_testBit (fun i => flags.getD i false) h
  rw [flagByte, BitVec.getLsbD_ofNat, decide_eq_true (by omega), Bool.true_and]
  exact hbit

@[simp] theorem maskBytes_length (flags : List Bool) : (maskBytes flags).length = (flags.length + 7) / 8 := by
  simp [maskBytes]

/-- Flag i stands in byte i / 8 of the mask, bit 7 first. -/
theorem maskBytes_bit (flags : List Bool) {i : Nat} (h : i < 8 * (maskBytes flags).length) :
    ((maskBytes flags).getD (i / 8) 0).getLsbD (7 - i % 8) = flags.getD i false := by
  have hbyte : i / 8 < (maskBytes flags).length := by omega
  have hget : (maskBytes flags).getD (i / 8) 0 = flagByte ((flags.drop (8 * (i / 8))).take 8) := by
    rw [List.getD_eq_getElem _ _ hbyte]
    simp [maskBytes]
  rw [hget, flagByte_bit _ (Nat.mod_lt i (by decide))]
  rw [List.getD_eq_getElem?_getD, List.getElem?_take_of_lt (Nat.mod_lt i (by decide)), List.getElem?_drop,
    Nat.div_add_mod, ← List.getD_eq_getElem?_getD]

/-- The flags of a mask are read back from its bytes. -/
theorem maskFlags_maskBytes (flags : List Bool) : maskFlags flags.length (maskBytes flags) = flags := by
  refine List.ext_getElem (by simp [maskFlags]) fun i hi hi' => ?_
  have hbit := maskBytes_bit flags (i := i) (by rw [maskBytes_length]; omega)
  rw [List.getD_eq_getElem _ _ hi'] at hbit
  simpa [maskFlags] using hbit

/-! ### The header (R96, R119, R127, R181, R182) -/

theorem headerGood_iff (bytes : List Byte) : headerGood bytes = true ↔
    bytes.length = 20 ∧ field bytes 18 2 = (crc16 (bytes.take 18)).toNat := by
  simp [headerGood]

theorem frameTypeOf_eq (b : Byte) : frameTypeOf b = match b.toNat with
    | 1 => some .data
    | 2 => some .ctrl
    | 3 => some .hello
    | 4 => some .start
    | _ => none := by
  simp only [frameTypeOf, ← BitVec.toNat_inj]
  match b.toNat with
  | 0 => rfl
  | 1 => rfl
  | 2 => rfl
  | 3 => rfl
  | 4 => rfl
  | n + 5 => simp

theorem nakOf_eq (b : Byte) : nakOf b = match b.toNat with
    | 1 => some .crc
    | 2 => some .gap
    | 3 => some .busy
    | 4 => some .format
    | _ => none := by
  simp only [nakOf, ← BitVec.toNat_inj]
  match b.toNat with
  | 0 => rfl
  | 1 => rfl
  | 2 => rfl
  | 3 => rfl
  | 4 => rfl
  | n + 5 => simp

theorem frameTypeOf_code (f : FrameType) : frameTypeOf f.code = some f := by cases f <;> rfl

theorem nakOf_nakCode (r : Option NakReason) : nakOf (nakCode r) = r := by
  cases r with
  | none => rfl
  | some r => cases r <;> rfl

/-- The four flags of a header (12.1). -/
theorem flagByte_four (a b c d : Bool) :
    flagByte [a, b, c, d] = BitVec.ofNat 8 (128 * a.toNat + 64 * b.toNat + 32 * c.toNat + 16 * d.toNat) := by
  cases a <;> cases b <;> cases c <;> cases d <;> rfl

theorem headerFields_length (h : Header) : (headerFields h).length = 18 := by simp [headerFields]

theorem encodeHeader_length (h : Header) : (encodeHeader h).length = 20 := by
  simp [encodeHeader, headerFields_length]

theorem encodeHeader_take (h : Header) : (encodeHeader h).take 18 = headerFields h :=
  List.take_left' (headerFields_length h)

/-- A header that a part builds is good (R119, R181). -/
theorem headerGood_encodeHeader (h : Header) : headerGood (encodeHeader h) = true := by
  rw [headerGood_iff, encodeHeader_take]
  refine ⟨encodeHeader_length h, ?_⟩
  have hcrc := field_append_beBytes (k := 2) (post := []) (headerFields_length h) (crc16 (headerFields h)).isLt
  rwa [List.append_nil] at hcrc

/-- The place of each field in a header (12.1). -/
theorem field_encodeHeader (h : Header) :
    field (encodeHeader h) 4 2 = beNat (beBytes 2 h.count) ∧
      field (encodeHeader h) 6 4 = beNat (beBytes 4 h.firstSeq.toNat) ∧
      field (encodeHeader h) 10 4 = beNat (beBytes 4 h.rcvAck.toNat) ∧
      field (encodeHeader h) 14 4 = beNat (beBytes 4 h.aplAck.toNat) := ⟨rfl, rfl, rfl, rfl⟩

/-- A header gives the fields it was built from (R96). -/
theorem headerOf_encodeHeader (h : Header) (ht : h.type ≠ none) (hc : h.lengthClass < 8) (hn : h.count < 65536) :
    headerOf (encodeHeader h) = h := by
  obtain ⟨hcount, hfirst, hrcv, hapl⟩ := field_encodeHeader h
  have hseq : ∀ (q : Seq) (o : Nat), field (encodeHeader h) o 4 = beNat (beBytes 4 q.toNat) →
      seqField (encodeHeader h) o = q := fun q o ho => by
    rw [seqField, ho, beNat_beBytes_of_lt q.isLt, BitVec.ofNat_toNat, BitVec.setWidth_eq]
  have h0 : (encodeHeader h).getD 0 0 = (h.type.map FrameType.code).getD 0 := rfl
  have h1 : (encodeHeader h).getD 1 0 = flagByte [h.turn, h.nak, h.fresh, h.reply] := rfl
  have h2 : (encodeHeader h).getD 2 0 = BitVec.ofNat 8 h.lengthClass := rfl
  have h3 : (encodeHeader h).getD 3 0 = nakCode h.reason := rfl
  obtain ⟨f, hf⟩ := Option.ne_none_iff_exists'.1 ht
  have hflag : ∀ i : Nat, i < 4 → (flagByte [h.turn, h.nak, h.fresh, h.reply]).getLsbD (7 - i) =
      [h.turn, h.nak, h.fresh, h.reply].getD i false := fun i hi => flagByte_bit _ (by omega)
  have hclass : (BitVec.ofNat 8 h.lengthClass).toNat % 8 = h.lengthClass := by
    rw [BitVec.toNat_ofNat]
    omega
  rw [headerOf, h0, h1, h2, h3, hf, hcount, hseq _ _ hfirst, hseq _ _ hrcv, hseq _ _ hapl, nakOf_nakCode, hclass,
    beNat_beBytes_of_lt hn, hflag 0 (by decide), hflag 1 (by decide), hflag 2 (by decide), hflag 3 (by decide)]
  rw [Option.map_some, Option.getD_some, frameTypeOf_code, ← hf]
  rfl

/-! ### Bodies (R98, R103, R131) -/

theorem bodyGood_iff (cls : Nat) (bytes : List Byte) : bodyGood cls bytes = true ↔
    bodyBytes cls ≤ bytes.length ∧
      field bytes (bodyBytes cls - 4) 4 = (crc32 (bytes.take (bodyBytes cls - 4))).toNat := by
  simp [bodyGood]

/-- The content of a body with its zero fill, which the CRC-32 covers (R98). -/
def bodyCovered (cls : Nat) (content : List Byte) : List Byte :=
  content ++ List.replicate (bodyBytes cls - 4 - content.length) 0

theorem buildBody_eq (cls : Nat) (content : List Byte) :
    buildBody cls content = bodyCovered cls content ++ beBytes 4 (crc32 (bodyCovered cls content)).toNat := rfl

theorem bodyCovered_length {cls : Nat} {content : List Byte} (h : content.length + 4 ≤ bodyBytes cls) :
    (bodyCovered cls content).length = bodyBytes cls - 4 := by
  rw [bodyCovered, List.length_append, List.length_replicate]
  omega

theorem buildBody_length {cls : Nat} {content : List Byte} (h : content.length + 4 ≤ bodyBytes cls) :
    (buildBody cls content).length = bodyBytes cls := by
  rw [buildBody_eq, List.length_append, bodyCovered_length h, beBytes_length]
  omega

/-- A body that a part builds is good, whatever follows it (R131, R181). -/
theorem bodyGood_buildBody {cls : Nat} {content : List Byte} (rest : List Byte)
    (h : content.length + 4 ≤ bodyBytes cls) : bodyGood cls (buildBody cls content ++ rest) = true := by
  rw [bodyGood_iff, List.length_append, buildBody_length h, buildBody_eq, List.append_assoc,
    List.take_left' (bodyCovered_length h)]
  exact ⟨Nat.le_add_right _ _, field_append_beBytes (bodyCovered_length h) (BitVec.isLt _)⟩

theorem buildBody_take (cls : Nat) (content : List Byte) : (buildBody cls content).take content.length = content := by
  rw [buildBody_eq, bodyCovered, List.append_assoc, List.take_left]

/-- What the receiver reads records from is the content and the zero fill (R132). -/
theorem buildBody_take_covered {cls : Nat} {content : List Byte} (h : content.length + 4 ≤ bodyBytes cls) :
    (buildBody cls content).take (bodyBytes cls - 4) = bodyCovered cls content := by
  rw [buildBody_eq, List.take_left' (bodyCovered_length h)]

/-- The smallest length class that holds a number of bytes (R103). -/
theorem lengthClassFor_spec {n : Nat} (h : n ≤ 4096) : lengthClassFor n ≤ 5 ∧ n ≤ bodyBytes (lengthClassFor n) ∧
    ∀ c, c < lengthClassFor n → bodyBytes c < n := by
  have hbelow : ∀ k, bodyBytes k < n → ∀ c, c < k + 1 → bodyBytes c < n := fun k hk c hc =>
    (Nat.mul_le_mul_left 128 (Nat.pow_le_pow_right (by decide) (Nat.le_of_lt_succ hc))).trans_lt hk
  unfold lengthClassFor
  split_ifs with h0 h1 h2 h3 h4
  · exact ⟨by decide, h0, fun _ hc => absurd hc (Nat.not_lt_zero _)⟩
  · exact ⟨by decide, h1, hbelow 0 (Nat.not_le.1 h0)⟩
  · exact ⟨by decide, h2, hbelow 1 (Nat.not_le.1 h1)⟩
  · exact ⟨by decide, h3, hbelow 2 (Nat.not_le.1 h2)⟩
  · exact ⟨by decide, h4, hbelow 3 (Nat.not_le.1 h3)⟩
  · exact ⟨by decide, h, hbelow 4 (Nat.not_le.1 h4)⟩

/-! ### Records (R99, R132) -/

theorem recordKindOf_code (k : RecordKind) : recordKindOf k.code = some k := by cases k <;> rfl

/-- The first byte of a record: its kind and whether it has a mask (12.1). -/
theorem recordByte (k : RecordKind) (m : Bool) :
    (BitVec.ofNat 8 (k.code * 16 + m.toNat * 8)).toNat / 16 = k.code ∧
      (BitVec.ofNat 8 (k.code * 16 + m.toNat * 8)).getLsbD 3 = m := by
  cases k <;> cases m <;> exact ⟨rfl, rfl⟩

/-- The 8 bytes a record begins with (12.1). -/
def recordHead (w : WireRecord) : List Byte :=
  [BitVec.ofNat 8 (w.kind.code * 16 + w.mask.isSome.toNat * 8), BitVec.ofNat 8 (w.length - 1)] ++
    beBytes 5 w.remoteAddr.toNat ++ [0]

theorem encodeRecord_eq (w : WireRecord) :
    encodeRecord w = recordHead w ++ ((w.mask.map maskBytes).getD [] ++ w.data) := by
  simp [encodeRecord, recordHead]

theorem recordHead_length (w : WireRecord) : (recordHead w).length = 8 := by simp [recordHead]

/-- What the receiver reads of the 8 bytes (R132). -/
theorem recordHead_fields (w : WireRecord) (rest : List Byte) :
    (recordHead w ++ rest).getD 0 0 = BitVec.ofNat 8 (w.kind.code * 16 + w.mask.isSome.toNat * 8) ∧
      (recordHead w ++ rest).getD 1 0 = BitVec.ofNat 8 (w.length - 1) ∧
      field (recordHead w ++ rest) 2 5 = w.remoteAddr.toNat := by
  have haddr : field (recordHead w ++ rest) 2 5 = beNat (beBytes 5 w.remoteAddr.toNat) := rfl
  exact ⟨rfl, rfl, haddr.trans (beNat_beBytes_of_lt (k := 5) w.remoteAddr.isLt)⟩

/-- Whether the record at the front of a body has a mask (R99). -/
def recordMasked (bytes : List Byte) : Bool := (bytes.getD 0 0).getLsbD 3

/-- The length the record at the front of a body gives (R99). -/
def recordLength (bytes : List Byte) : Nat := (bytes.getD 1 0).toNat + 1

/-- Where the data of the record at the front of a body begin (R99). -/
def recordDataAt (bytes : List Byte) : Nat := 8 + if recordMasked bytes then (recordLength bytes + 7) / 8 else 0

/-- The record read from the front of a body, given its kind (R99, R132). -/
def recordRead (kind : RecordKind) (bytes : List Byte) : WireRecord where
  kind := kind
  remoteAddr := BitVec.ofNat 40 (field bytes 2 5)
  length := recordLength bytes
  mask := if recordMasked bytes then
      some ((List.range (recordLength bytes)).map fun i => (bytes.getD (8 + i / 8) 0).getLsbD (7 - i % 8))
    else none
  data := (bytes.drop (recordDataAt bytes)).take (recordLength bytes)

theorem parseRecord_short {bytes : List Byte} (h : bytes.length < 8) : parseRecord bytes = none := if_pos h

theorem parseRecord_unknown {bytes : List Byte} (h : recordKindOf ((bytes.getD 0 0).toNat / 16) = none) :
    parseRecord bytes = none := by
  unfold parseRecord
  split
  · rfl
  · simp only [h]

theorem parseRecord_void {bytes : List Byte} (h8 : 8 ≤ bytes.length)
    (h : recordKindOf ((bytes.getD 0 0).toNat / 16) = some .void) :
    parseRecord bytes = if recordMasked bytes then none
      else some (⟨.void, BitVec.ofNat 40 (field bytes 2 5), 0, none, []⟩, bytes.drop 8) := by
  rw [parseRecord, if_neg (Nat.not_lt.2 h8)]
  simp only [h]
  rfl

/-- The flags of a mask stand in the bytes behind the record's first 8 (R99). -/
theorem maskFlags_drop (len : Nat) (bytes : List Byte) : maskFlags len ((bytes.drop 8).take ((len + 7) / 8)) =
    (List.range len).map fun i => (bytes.getD (8 + i / 8) 0).getLsbD (7 - i % 8) := by
  refine List.map_congr_left fun i hi => ?_
  have hlt : i / 8 < (len + 7) / 8 := by
    rw [List.mem_range] at hi
    omega
  simp only [List.getD_eq_getElem?_getD, List.getElem?_take_of_lt hlt, List.getElem?_drop]

/-- A WRITE or SWEEP record is read unless it is cut off, is no SWEEP a sweep could send, or crosses a page (R132). -/
theorem parseRecord_data {bytes : List Byte} {kind : RecordKind} (h8 : 8 ≤ bytes.length)
    (h : recordKindOf ((bytes.getD 0 0).toNat / 16) = some kind) (hkind : kind ≠ .void) :
    parseRecord bytes =
      if bytes.length < recordDataAt bytes + recordLength bytes ∨
          (kind = .sweep ∧ (recordMasked bytes = true ∨ recordLength bytes ≠ 256)) ∨
          4096 < field bytes 2 5 % 4096 + recordLength bytes then none
      else some (recordRead kind bytes, bytes.drop (recordDataAt bytes + recordLength bytes)) := by
  have hpage : pageOffset (BitVec.ofNat 40 (field bytes 2 5)) = field bytes 2 5 % 4096 := by
    rw [pageOffset, BitVec.toNat_ofNat]
    exact Nat.mod_mod_of_dvd _ (by decide)
  have hread : recordRead kind bytes = ⟨kind, BitVec.ofNat 40 (field bytes 2 5), recordLength bytes,
      if recordMasked bytes then some (maskFlags (recordLength bytes)
        ((bytes.drop 8).take (if recordMasked bytes then (recordLength bytes + 7) / 8 else 0))) else none,
      (bytes.drop (recordDataAt bytes)).take (recordLength bytes)⟩ := by
    cases hm : recordMasked bytes <;> simp [recordRead, hm, maskFlags_drop]
  rw [parseRecord, if_neg (Nat.not_lt.2 h8), hread, ← hpage]
  simp only [h]
  rw [ite_or, ite_or]
  cases kind with
  | void => exact absurd rfl hkind
  | write => rfl
  | sweep => rfl

/-- A record that a part builds with a WRITE's or a SWEEP's content: what R132 examines holds of it. -/
structure WireRecord.Sound (w : WireRecord) : Prop where
  kind_ne : w.kind ≠ .void
  length_pos : 1 ≤ w.length
  length_le : w.length ≤ 256
  data_length : w.data.length = w.length
  mask_length : ∀ flags, w.mask = some flags → flags.length = w.length
  in_page : w.remoteAddr.toNat % 4096 + w.length ≤ 4096
  sweep : w.kind = .sweep → w.mask = none ∧ w.length = 256

/-- The mask bytes of a record, none without a mask (R99). -/
def WireRecord.maskPart (w : WireRecord) : List Byte := (w.mask.map maskBytes).getD []

theorem WireRecord.maskPart_length {w : WireRecord} (h : ∀ flags, w.mask = some flags → flags.length = w.length) :
    w.maskPart.length = if w.mask.isSome then (w.length + 7) / 8 else 0 := by
  cases hm : w.mask with
  | none => simp [maskPart, hm]
  | some flags => simp [maskPart, hm, h flags hm]

theorem encodeRecord_append (w : WireRecord) (rest : List Byte) :
    encodeRecord w ++ rest = recordHead w ++ (w.maskPart ++ (w.data ++ rest)) := by
  simp [encodeRecord_eq, WireRecord.maskPart]

theorem encodeRecord_drop (w : WireRecord) (rest : List Byte) :
    (encodeRecord w ++ rest).drop 8 = w.maskPart ++ (w.data ++ rest) := by
  rw [encodeRecord_append, List.drop_left' (recordHead_length w)]

/-- The kind, mask flag and address read back from the first 8 bytes of a record (R132). -/
theorem encodeRecord_head (w : WireRecord) (rest : List Byte) :
    recordKindOf (((encodeRecord w ++ rest).getD 0 0).toNat / 16) = some w.kind ∧
      recordMasked (encodeRecord w ++ rest) = w.mask.isSome ∧
      BitVec.ofNat 40 (field (encodeRecord w ++ rest) 2 5) = w.remoteAddr ∧
      (1 ≤ w.length → w.length ≤ 256 → recordLength (encodeRecord w ++ rest) = w.length) := by
  rw [encodeRecord_append]
  obtain ⟨hfirst, hlen, haddr⟩ := recordHead_fields w (w.maskPart ++ (w.data ++ rest))
  obtain ⟨hkind, hmask⟩ := recordByte w.kind w.mask.isSome
  rw [recordMasked, recordLength, hfirst, hlen, haddr, hkind, hmask, BitVec.ofNat_toNat, BitVec.setWidth_eq,
    BitVec.toNat_ofNat]
  refine ⟨recordKindOf_code _, rfl, rfl, fun hpos hle => ?_⟩
  omega

theorem WireRecord.Sound.recordDataAt_encodeRecord {w : WireRecord} (h : w.Sound) (rest : List Byte) :
    recordDataAt (encodeRecord w ++ rest) = 8 + w.maskPart.length := by
  obtain ⟨-, hmask, -, hlen⟩ := encodeRecord_head w rest
  rw [recordDataAt, hmask, hlen h.length_pos h.length_le, maskPart_length h.mask_length]

/-- The content of a record reads back as it was (R99). -/
theorem WireRecord.Sound.recordRead_encodeRecord {w : WireRecord} (h : w.Sound) (rest : List Byte) :
    recordRead w.kind (encodeRecord w ++ rest) = w := by
  obtain ⟨-, hmask, haddr, hlen⟩ := encodeRecord_head w rest
  have hdata : ((encodeRecord w ++ rest).drop (8 + w.maskPart.length)).take w.length = w.data := by
    rw [← List.drop_drop, encodeRecord_drop, List.drop_left, List.take_left' h.data_length]
  have hflags : (if w.mask.isSome then some (maskFlags w.length
      (((encodeRecord w ++ rest).drop 8).take ((w.length + 7) / 8))) else none) = w.mask := by
    cases hm : w.mask with
    | none => rfl
    | some flags =>
      have hl := h.mask_length flags hm
      have hpart : w.maskPart = maskBytes flags := by rw [maskPart, hm]; rfl
      rw [encodeRecord_drop, hpart, List.take_left' (by rw [maskBytes_length, hl]), ← hl, maskFlags_maskBytes]
      rfl
  rw [recordRead, h.recordDataAt_encodeRecord, ← maskFlags_drop, hmask, haddr, hlen h.length_pos h.length_le, hdata,
    hflags]

/-- A WRITE or SWEEP record that a part builds is read back, whatever follows it (R99, R132). -/
theorem WireRecord.Sound.parseRecord_encodeRecord {w : WireRecord} (h : w.Sound) (rest : List Byte) :
    parseRecord (encodeRecord w ++ rest) = some (w, rest) := by
  obtain ⟨hkind, hmask, haddr, hlen⟩ := encodeRecord_head w rest
  have hpage : field (encodeRecord w ++ rest) 2 5 = w.remoteAddr.toNat := by
    rw [encodeRecord_append]
    exact (recordHead_fields w _).2.2
  have hsize : (encodeRecord w ++ rest).length = 8 + w.maskPart.length + w.length + rest.length := by
    rw [encodeRecord_append, ← h.data_length]
    simp only [List.length_append, recordHead_length]
    omega
  have hsweep : ¬ (w.kind = .sweep ∧ (w.mask.isSome = true ∨ w.length ≠ 256)) := fun ⟨hk, hbad⟩ => by
    obtain ⟨hnone, h256⟩ := h.sweep hk
    rcases hbad with hsome | hne
    · simp [hnone] at hsome
    · exact hne h256
  have hrest : (encodeRecord w ++ rest).drop (8 + w.maskPart.length + w.length) = rest := by
    rw [Nat.add_assoc, ← List.drop_drop, encodeRecord_drop, ← List.drop_drop, List.drop_left,
      List.drop_left' h.data_length]
  rw [parseRecord_data (by omega) hkind h.kind_ne, h.recordRead_encodeRecord, h.recordDataAt_encodeRecord, hmask,
    hlen h.length_pos h.length_le, hpage, hsize, hrest, if_neg]
  rintro (hshort | hbad | hcross)
  · omega
  · exact hsweep hbad
  · exact absurd h.in_page (Nat.not_le.2 hcross)

/-- A formed WRITE, and a formed SWEEP whose chunk was read, have what R132 examines (R44, R45). -/
theorem Record.wire_sound {r : Record} (hf : r.formed = true) (hs : r.state ≠ .filling) (hk : r.kind ≠ .void) :
    r.wire.Sound := by
  cases hkind : r.kind with
  | void => exact absurd hkind hk
  | write =>
    obtain ⟨⟨hpos, hle, hdata, -, -, hpage⟩, hmask, -⟩ := (Record.formed_write hkind).1 hf
    exact ⟨hk, hpos, hle, hdata, hmask, hpage, fun h => absurd (hkind.symm.trans h) (by decide)⟩
  | sweep =>
    obtain ⟨hlen, hmask, -, hdata, -, hpage⟩ := (Record.formed_sweep hkind).1 hf
    rw [if_neg hs] at hdata
    exact ⟨hk, (by decide : 1 ≤ 256).trans hlen.ge, hlen.le, hdata.trans hlen.symm,
      fun flags h => absurd (hmask.symm.trans h) (by simp), hpage, fun _ => ⟨hmask, hlen⟩⟩

/-- A VOID record that a part builds is read back, whatever follows it (R50, R132). -/
theorem parseRecord_encodeRecord_void (a : Addr) (rest : List Byte) :
    parseRecord (encodeRecord ⟨.void, a, 0, none, []⟩ ++ rest) = some (⟨.void, a, 0, none, []⟩, rest) := by
  obtain ⟨hkind, hmask, haddr, -⟩ := encodeRecord_head ⟨.void, a, 0, none, []⟩ rest
  rw [parseRecord_void _ hkind, hmask, haddr, encodeRecord_drop]
  · rfl
  · rw [encodeRecord_append, List.length_append, recordHead_length]
    exact Nat.le_add_right _ _

theorem Record.wire_void {r : Record} (hf : r.formed = true) (hk : r.kind = .void) :
    r.wire = ⟨.void, r.remoteAddr, 0, none, []⟩ := by
  obtain ⟨hlen, hmask, hdata, -⟩ := (Record.formed_void hk).1 hf
  rw [wire, hk, hlen, hmask, hdata]

/-- A record that a part sends is read back, whatever follows it (R99, R132). -/
theorem parseRecord_encodeRecord {r : Record} (hf : r.formed = true) (hs : r.state ≠ .filling) (rest : List Byte) :
    parseRecord (encodeRecord r.wire ++ rest) = some (r.wire, rest) := by
  by_cases hk : r.kind = .void
  · rw [Record.wire_void hf hk, parseRecord_encodeRecord_void]
  · exact (Record.wire_sound hf hs hk).parseRecord_encodeRecord rest

/-- A record takes its encoded size on the line (R99). -/
theorem encodeRecord_length {r : Record} (hf : r.formed = true) (hs : r.state ≠ .filling) :
    (encodeRecord r.wire).length = encodedSize r := by
  have hsize : (encodeRecord r.wire).length = 8 + r.wire.maskPart.length + r.wire.data.length := by
    rw [← List.append_nil (encodeRecord r.wire), encodeRecord_append]
    simp only [List.length_append, recordHead_length, List.length_nil]
    omega
  rw [hsize, encodedSize]
  by_cases hk : r.kind = .void
  · obtain ⟨hlen, hmask, -⟩ := (Record.formed_void hk).1 hf
    rw [Record.wire_void hf hk, hlen, hmask]
    rfl
  · have hsound := Record.wire_sound hf hs hk
    rw [WireRecord.maskPart_length hsound.mask_length, hsound.data_length]
    rfl

theorem parseRecords_succ (n : Nat) (bytes : List Byte) : parseRecords (n + 1) bytes =
    (parseRecord bytes).bind fun first => (parseRecords n first.2).map fun others => first.1 :: others := by
  rw [parseRecords]
  cases parseRecord bytes <;> rfl

/-- Records read back one after the other, whatever follows them (R132). -/
theorem parseRecords_encodeRecord (rs : List Record) (rest : List Byte)
    (h : ∀ r ∈ rs, r.formed = true ∧ r.state ≠ .filling) :
    parseRecords rs.length ((rs.flatMap fun r => encodeRecord r.wire) ++ rest) = some (rs.map Record.wire) := by
  induction rs with
  | nil => rfl
  | cons r rs ih =>
    obtain ⟨⟨hf, hs⟩, hrest⟩ := List.forall_mem_cons.1 h
    rw [List.flatMap_cons, List.append_assoc, List.length_cons, parseRecords_succ, parseRecord_encodeRecord hf hs,
      Option.bind_some, ih hrest]
    rfl

theorem flatMap_encodeRecord_length (rs : List Record) (h : ∀ r ∈ rs, r.formed = true ∧ r.state ≠ .filling) :
    (rs.flatMap fun r => encodeRecord r.wire).length = (rs.map encodedSize).sum := by
  rw [List.length_flatMap]
  exact congrArg List.sum (List.map_congr_left fun r hr => encodeRecord_length (h r hr).1 (h r hr).2)

/-- A DATA frame's records are read when its class and count are defined and each of them reads (R132). -/
theorem frameRecords_eq (h : Header) (body : List Byte) : frameRecords h body =
    if 6 ≤ h.lengthClass ∨ h.count = 0 ∨ 64 < h.count then none
    else parseRecords h.count (body.take (bodyBytes h.lengthClass - 4)) := rfl

/-! ### Training bodies (R107, R158, R182) -/

/-- Equal sequence numbers are equal numbers. -/
theorem seqField_eq_iff (bytes : List Byte) (o : Nat) (q : Seq) : seqField bytes o = q ↔ q.toNat = field bytes o 4 := by
  rw [← BitVec.toNat_inj, seqField_toNat]
  exact eq_comm

theorem roleOf_eq_some_iff (b : Byte) (r : Role) : roleOf b = some r ↔ b.toNat = r.code.toNat := by
  rw [BitVec.toNat_inj]
  exact ⟨roleOf_eq_some, fun h => by rw [h, roleOf_code]⟩

theorem decisionOf_eq_some_iff (b : Byte) (d : Decision) : decisionOf b = some d ↔ b.toNat = d.code.toNat := by
  rw [BitVec.toNat_inj, decisionOf]
  cases d with
  | newSession => split_ifs with h1 h2 <;> simp_all [Decision.code]
  | resume => split_ifs with h1 h2 <;> simp_all [Decision.code]

/-- When a HELLO body is read, and as what (R158, R182). -/
theorem helloOf_eq_some_iff (body : List Byte) (b : HelloBody) : helloOf body = some b ↔
    (body.getD 0 0).toNat = b.role.code.toNat ∧ b.expected.toNat = field body 1 4 ∧
      b.nextSeq.toNat = field body 5 4 ∧ b.oldest.toNat = field body 9 4 ∧ b.window = field body 13 2 ∧
      1 ≤ b.window ∧ b.window ≤ 1024 := by
  simp only [← roleOf_eq_some_iff, ← seqField_eq_iff]
  unfold helloOf
  cases roleOf (body.getD 0 0) with
  | none => simp
  | some role =>
    obtain ⟨role', expected, nextSeq, oldest, window⟩ := b
    simp only [Option.some.injEq]
    split_ifs with hwindow
    · simp only [Option.some.injEq, HelloBody.mk.injEq]
      constructor
      · rintro ⟨hr, he, hn, ho, rfl⟩
        exact ⟨hr, he, hn, ho, rfl, hwindow⟩
      · rintro ⟨hr, he, hn, ho, hw, -⟩
        exact ⟨hr, he, hn, ho, hw.symm⟩
    · constructor
      · intro h
        cases h
      · rintro ⟨-, -, -, -, hw, hrange⟩
        exact absurd (hw ▸ hrange) hwindow

/-- A HELLO body gives the fields it was built from (R107, R158). -/
theorem helloOf_encodeHello {b : HelloBody} (hpos : 1 ≤ b.window) (hle : b.window ≤ 1024) :
    helloOf (buildBody 0 (encodeHello b)) = some b := by
  have hseq : ∀ (q : Seq), q.toNat = beNat (beBytes 4 q.toNat) := fun q => (beNat_beBytes_of_lt q.isLt).symm
  have hwindow : b.window = beNat (beBytes 2 b.window) := (beNat_beBytes_of_lt (by omega)).symm
  exact (helloOf_eq_some_iff _ b).2
    ⟨rfl, hseq b.expected, hseq b.nextSeq, hseq b.oldest, hwindow, hpos, hle⟩

/-- A START body gives its decision (R107). -/
theorem decisionOf_buildBody (d : Decision) : decisionOf ((buildBody 0 [d.code]).getD 0 0) = some d := by
  cases d <;> rfl

/-! ### CRC-16 and CRC-32 byte by byte (R181) -/

theorem crc16_append (bs : List Byte) (b : Byte) : crc16 (bs ++ [b]) = crcByte 0x1021#16 (crc16 bs) b := by
  rw [crc16, List.foldl_append]
  rfl

theorem crc32_append (bs : List Byte) (b : Byte) :
    crc32 (bs ++ [b]) = ~~~ crcByte 0x04C11DB7#32 (~~~ crc32 bs) b := by
  rw [crc32, List.foldl_append, crc32, BitVec.not_not]
  rfl

/-! ### The layout of headers, records and HELLO bodies -/

theorem headerOf_fields (bytes : List Byte) : (headerOf bytes).type = frameTypeOf (bytes.getD 0 0) ∧
    (headerOf bytes).reason = nakOf (bytes.getD 3 0) ∧ (headerOf bytes).firstSeq.toNat = field bytes 6 4 ∧
    (headerOf bytes).rcvAck.toNat = field bytes 10 4 ∧ (headerOf bytes).aplAck.toNat = field bytes 14 4 :=
  ⟨rfl, rfl, seqField_toNat _ _, seqField_toNat _ _, seqField_toNat _ _⟩

/-- The mask of a record is its flags in bytes, and none without a mask (R99, 12.1). -/
theorem WireRecord.maskPart_spec (w : WireRecord) : (w.mask = none → w.maskPart = []) ∧
    ∀ flags, w.mask = some flags → w.maskPart.length = (flags.length + 7) / 8 ∧
      ∀ i, i < 8 * w.maskPart.length → (w.maskPart.getD (i / 8) 0).getLsbD (7 - i % 8) = flags.getD i false := by
  refine ⟨fun h => by simp [maskPart, h], fun flags h => ?_⟩
  have hpart : w.maskPart = maskBytes flags := by simp [maskPart, h]
  rw [hpart]
  exact ⟨maskBytes_length flags, fun i hi => maskBytes_bit flags hi⟩

theorem recordKindOf_eq_none {n : Nat} (h1 : n ≠ 1) (h2 : n ≠ 2) (h3 : n ≠ 3) : recordKindOf n = none := by
  unfold recordKindOf
  split
  · exact absurd rfl h1
  · exact absurd rfl h2
  · exact absurd rfl h3
  · rfl

/-- Settles O53, from the equations of each format and the round trips above. -/
theorem lineFormatsReadBack : Obligations.LineFormatsReadBack := by
  unfold Obligations.LineFormatsReadBack
  refine ⟨fun _ _ _ => rfl, headerGood_iff, fun bytes => ?header, bodyGood_iff, frameRecords_eq,
    fun n bytes => ⟨rfl, parseRecords_succ n bytes⟩, fun bytes => ?record, fun body b => ?hello,
    fun code d => ?decision, fun _ => rfl, fun k n => ⟨beBytes_length k n, beBytes_getD k n⟩, fun h => ?fields,
    fun h => by rw [encodeHeader_take]; rfl, fun _ _ _ => rfl, fun n h => lengthClassFor_spec h, fun w => ?layout,
    fun b => ?helloLayout, ⟨rfl, rfl⟩, ⟨rfl, rfl, fun bs b => ⟨crc16_append bs b, crc32_append bs b⟩⟩,
    fun h ht hc hn => ⟨encodeHeader_length h, headerGood_encodeHeader h, headerOf_encodeHeader h ht hc hn⟩,
    fun cls content rest _ h => ⟨buildBody_length h, bodyGood_buildBody rest h, buildBody_take cls content⟩,
    fun rs rest h => ⟨parseRecords_encodeRecord rs rest h, flatMap_encodeRecord_length rs h⟩,
    fun b hpos hle => helloOf_encodeHello hpos hle, decisionOf_buildBody⟩
  case header =>
    obtain ⟨htype, hreason, hfirst, hrcv, hapl⟩ := headerOf_fields bytes
    exact ⟨htype.trans (frameTypeOf_eq _), ⟨rfl, rfl, rfl, rfl⟩, rfl, hreason.trans (nakOf_eq _), rfl, hfirst, hrcv,
      hapl⟩
  case record =>
    intro kind masked len addr at8 read
    refine ⟨parseRecord_short, fun h8 => ⟨fun h1 h2 h3 => ?_, fun h3 => ?_, ?_⟩⟩
    · exact parseRecord_unknown (recordKindOf_eq_none h1 h2 h3)
    · exact parseRecord_void h8 (congrArg recordKindOf h3)
    · intro hk
      obtain ⟨k, hcode, hk⟩ : ∃ k : RecordKind, kind = k.code ∧ k ≠ .void :=
        hk.elim (fun h => ⟨.write, h, by decide⟩) fun h => ⟨.sweep, h, by decide⟩
      have hsweep : kind = 2 ↔ k = .sweep := by
        rw [hcode]
        cases k <;> decide
      have hread : read = recordRead k bytes := by
        have hname : (if kind = 1 then RecordKind.write else .sweep) = k := by
          rw [hcode]
          cases k with
          | void => exact absurd rfl hk
          | _ => rfl
        simp only [read, hname]
        rfl
      rw [hread]
      exact (parseRecord_data h8 ((congrArg recordKindOf hcode).trans (recordKindOf_code k)) hk).trans
        (if_congr (or_congr_right (or_congr_left (and_congr_left' hsweep.symm))) rfl rfl)
  case hello =>
    rw [helloOf_eq_some_iff]
    cases b.role <;> rfl
  case decision =>
    rw [decisionOf_eq_some_iff]
    cases d <;> rfl
  case fields =>
    rw [encodeHeader_take, headerFields, flagByte_four]
    congr 5
    cases h.type with
    | none => rfl
    | some f => cases f <;> rfl
  case layout =>
    refine ⟨w.maskPart, ?_, w.maskPart_spec⟩
    have hlayout : encodeRecord w = recordHead w ++ w.maskPart ++ w.data := by
      rw [encodeRecord_eq, List.append_assoc]
      rfl
    rw [hlayout, recordHead]
    cases w.kind <;> rfl
  case helloLayout =>
    rw [encodeHello]
    cases b.role <;> rfl

end Sys2Proof.Machine

namespace Sys2Proof.Machine

/-! ### What the line keeps while the link is UP -/

theorem State.sendWanted_up {s : State} (h : s.linkUp = true) : s.sendWanted = s := by
  unfold State.linkUp at h
  unfold State.sendWanted
  split
  · next t ht => simp [ht] at h
  · rfl

theorem State.dwellCheck_linkUp (s : State) : s.dwellCheck.linkUp = s.linkUp := by
  unfold State.dwellCheck
  split
  · next u hu =>
    split
    · simp [State.linkUp, State.setLink, hu]
    · rfl
  · rfl

/-- While the link is UP no training frame starts, so the reactions leave FTX alone (R159). -/
theorem State.settle_ftx_of_up {s : State} (h : s.linkUp = true) : s.settle.ftx = s.ftx := by
  have hup : s.acceptPresented.stallCheck.applyRun.sweepTake.dwellCheck.linkUp = true := by
    rw [State.dwellCheck_linkUp, State.linkUp]
    simpa [State.linkUp] using h
  rw [State.settle, State.sendWanted_up hup]
  simp

/-- The silence timer is part of the link state, and nothing else changes when it starts again (R117). -/
theorem State.restartSilence_eq (s : State) : s.restartSilence = s.setLink s.restartSilence.lnc.link := by
  unfold State.restartSilence
  split
  · split <;> rfl
  · rfl

/-- The hand-over of the line changes the link state alone (R118). -/
theorem State.handover_eq (h : Header) (s : State) : s.handover h = s.setLink (s.handover h).lnc.link := by
  unfold State.handover
  split
  · split <;> rfl
  · rfl

theorem State.restartSilence_linkUp (s : State) : s.restartSilence.linkUp = s.linkUp := by
  unfold State.restartSilence
  split
  · next u hu =>
    split
    · simp [State.linkUp, State.setLink, hu]
    · rfl
  · rfl

/-- The line's return to idle keeps APL, FTX and MGP, ends the reception, and leaves the link UP (R117). -/
theorem State.lineReturns_parts (s : State) : s.lineReturns.apl = s.apl ∧ s.lineReturns.ftx = s.ftx ∧
    s.lineReturns.mgp = s.mgp ∧ s.lineReturns.frx = { s.frx with rx := none } ∧ s.lineReturns.linkUp = s.linkUp := by
  refine ⟨?_, ?_, ?_, ?_, State.restartSilence_linkUp _⟩ <;> rw [State.lineReturns, State.restartSilence_eq] <;> rfl

/-! ### What the sender builds (R99, R101, R103) -/

/-- The selected records have the form of their kinds and are not FILLING (R45, R101). -/
theorem State.selection_formed {s : State} (h : s.recordsFormed = true) :
    ∀ r ∈ s.selection, r.formed = true ∧ r.state ≠ .filling := by
  obtain ⟨hrun, hpending, -⟩ := selectRecords_spec s.lnc.params.window s.jnl.sentCount 0 0 s.jnl.fromSendPoint
  intro r hr
  have hmem : r ∈ s.jnl.records := by
    rw [State.selection, hrun] at hr
    exact List.mem_of_mem_drop (List.mem_of_mem_take hr)
  exact ⟨(s.recordsFormed_iff.1 h).1 r hmem, by rw [hpending r hr]; decide⟩

/-- A selection that is sent holds 1 to 64 records, which fit the largest body with its CRC-32 (R101). -/
theorem State.selection_bounds {s : State} (hs : s.sendable = true) (h : s.recordsFormed = true) :
    0 < s.selection.length ∧ s.selection.length ≤ 64 ∧ encodedTotal s.selection + 4 ≤ 4096 := by
  have hpos : 0 < s.selection.length := State.selection_pos hs fun r hr =>
    (s.recordsFormed_iff.1 h).1 r (List.mem_of_mem_drop (List.mem_of_mem_head? hr))
  obtain ⟨-, -, hbounds⟩ := selectRecords_spec s.lnc.params.window s.jnl.sentCount 0 0 s.jnl.fromSendPoint
  obtain ⟨hcount, -, hsize⟩ := hbounds hpos
  rw [Nat.zero_add] at hcount hsize
  exact ⟨hpos, hcount, hsize⟩

/-- The content of a DATA frame (R99). -/
def State.dataContent (s : State) : List Byte := s.selection.flatMap fun r => encodeRecord r.wire

/-- The body of a DATA frame (R98, R103). -/
def State.dataBody (s : State) : List Byte := buildBody (lengthClassFor (encodedTotal s.selection + 4)) s.dataContent

/-- The bytes of a DATA frame on the line (R94, R103). -/
def State.dataBytes (s : State) (turn : Bool) : List Byte :=
  frameMark ++ encodeHeader (s.dataHeader turn s.selection) ++ s.dataBody

/-- The DATA frame that FTX starts (R103). -/
theorem State.buildData_frame (s : State) (turn : Bool) : ∃ f, (s.buildData turn).ftx.frame = some f ∧
    f.bytes = s.dataBytes turn := ⟨_, rfl, rfl⟩

theorem State.dataBytes_parts (s : State) (turn : Bool) :
    (s.dataBytes turn).take 2 = [0xD3, 0x5C] ∧
      ((s.dataBytes turn).drop 2).take 20 = encodeHeader (s.dataHeader turn s.selection) ∧
      (s.dataBytes turn).drop 22 = s.dataBody := by
  have hdrop : (s.dataBytes turn).drop 2 = encodeHeader (s.dataHeader turn s.selection) ++ s.dataBody := rfl
  refine ⟨rfl, ?_, ?_⟩
  · rw [hdrop, List.take_left' (encodeHeader_length _)]
  · rw [← List.drop_drop (i := 20) (j := 2), hdrop, List.drop_left' (encodeHeader_length _)]

theorem State.dataContent_length {s : State} (h : s.recordsFormed = true) :
    s.dataContent.length = encodedTotal s.selection := flatMap_encodeRecord_length _ (State.selection_formed h)

/-- The length class of a DATA frame holds its records (R103). -/
theorem State.dataClass_spec {s : State} (hs : s.sendable = true) (h : s.recordsFormed = true) :
    lengthClassFor (encodedTotal s.selection + 4) ≤ 5 ∧
      s.dataContent.length + 4 ≤ bodyBytes (lengthClassFor (encodedTotal s.selection + 4)) := by
  obtain ⟨-, -, hsize⟩ := State.selection_bounds hs h
  obtain ⟨hclass, hholds, -⟩ := lengthClassFor_spec hsize
  rw [State.dataContent_length h]
  exact ⟨hclass, hholds⟩

/-- The receiver reads the fields that the sender filled in (R96, R127). -/
theorem State.headerOf_dataHeader {s : State} (turn : Bool) (hs : s.sendable = true) (h : s.recordsFormed = true) :
    headerOf (encodeHeader (s.dataHeader turn s.selection)) = s.dataHeader turn s.selection := by
  obtain ⟨-, hcount, -⟩ := State.selection_bounds hs h
  obtain ⟨hclass, -⟩ := State.dataClass_spec hs h
  exact headerOf_encodeHeader _ (Option.some_ne_none _) (hclass.trans_lt (by decide)) (hcount.trans_lt (by decide))

/-- The receiver reads the selected records from the body (R98, R99, R132). -/
theorem State.frameRecords_dataBody {s : State} (turn : Bool) (hs : s.sendable = true) (h : s.recordsFormed = true) :
    frameRecords (s.dataHeader turn s.selection) s.dataBody = some (s.selection.map Record.wire) := by
  obtain ⟨hpos, hcount, -⟩ := State.selection_bounds hs h
  obtain ⟨hclass, hholds⟩ := State.dataClass_spec hs h
  have hgood : ¬(6 ≤ lengthClassFor (encodedTotal s.selection + 4) ∨ s.selection.length = 0 ∨
      64 < s.selection.length) := by omega
  rw [frameRecords_eq]
  refine (if_neg hgood).trans ?_
  change parseRecords s.selection.length (s.dataBody.take _) = _
  rw [State.dataBody, State.dataHeader, State.header, buildBody_take_covered hholds]
  exact parseRecords_encodeRecord _ _ (State.selection_formed h)

/-! ### What the receiver does with it (R130 to R135) -/

/-- No seq is in order before itself (R133). -/
theorem precedes_self (e : Seq) : precedes e e = false := by simp [precedes]

/-- A frame that begins at E is not one that ends at or before E (R134). -/
theorem atOrBefore_add_self (e : Seq) {k : Nat} (hpos : 0 < k) (hle : k ≤ 64) :
    atOrBefore (e + BitVec.ofNat 32 k) e = false := by
  have hdist : (e - (e + BitVec.ofNat 32 k)).toNat = 2 ^ 32 - k := by
    have hk : (BitVec.ofNat 32 k).toNat = k := by
      rw [BitVec.toNat_ofNat]
      omega
    have hneg : e - (e + BitVec.ofNat 32 k) = -BitVec.ofNat 32 k := by ring
    rw [hneg, BitVec.toNat_neg, hk]
    omega
  have hne : e + BitVec.ofNat 32 k ≠ e := fun h => by
    rw [h, BitVec.sub_self] at hdist
    simp at hdist
    omega
  rw [← Bool.not_eq_true, atOrBefore_iff, precedes_iff, hdist]
  rintro (h | ⟨-, h⟩)
  · exact hne h
  · omega

/-- Records that begin at E and fit the apply queue are all taken (R133 to R135). -/
theorem State.acceptInOrder_expected {s : State} {recs : List WireRecord} (hpos : 0 < recs.length)
    (hle : recs.length ≤ 64) (hfits : s.apl.fits recs = true) :
    s.acceptInOrder s.frx.expected recs = s.acceptRecords recs := by
  have hgap : ¬(precedes s.frx.expected s.frx.expected = true ∨ (s.frx.expected - s.frx.expected).toNat = 2 ^ 31) := by
    simp [precedes_self]
  have hnew : recs.drop (s.frx.expected - s.frx.expected).toNat = recs := by simp
  have hdup : ¬atOrBefore (s.frx.expected + BitVec.ofNat 32 recs.length) s.frx.expected = true := by
    rw [atOrBefore_add_self _ hpos hle]
    decide
  rw [State.acceptInOrder]
  refine (if_neg hgap).trans ((if_neg hdup).trans ?_)
  simp only [hnew]
  exact if_pos hfits

/-- A DATA frame built elsewhere passes the five checks where its first record is expected and there is room (R130). -/
theorem State.acceptData_built {s r : State} (turn : Bool) (hs : s.sendable = true) (h : s.recordsFormed = true)
    (hexp : r.frx.expected = s.jnl.sendPoint) (hfits : r.apl.fits (s.selection.map Record.wire) = true) :
    r.acceptData (s.dataHeader turn s.selection) s.dataBody = r.acceptRecords (s.selection.map Record.wire) := by
  obtain ⟨hpos, hcount, -⟩ := State.selection_bounds hs h
  obtain ⟨-, hholds⟩ := State.dataClass_spec hs h
  have hbody : bodyGood (lengthClassFor (encodedTotal s.selection + 4)) s.dataBody = true := by
    have hbuilt := bodyGood_buildBody [] hholds
    rwa [List.append_nil] at hbuilt
  have hgood : ¬((s.dataHeader turn s.selection).lengthClass ≤ 5 ∧
      bodyGood (s.dataHeader turn s.selection).lengthClass s.dataBody = false) := fun ⟨_, hbad⟩ =>
    absurd (hbody.symm.trans hbad) (by decide)
  have hfirst : (s.dataHeader turn s.selection).firstSeq = r.frx.expected := hexp.symm
  rw [State.acceptData, if_neg hgood, State.frameRecords_dataBody turn hs h]
  simp only [hfirst]
  exact State.acceptInOrder_expected (by simpa using hpos) (by simpa using hcount) hfits

/-- A DATA frame with a good header ends while the link is UP: the line returns to idle, the records are examined,
and a TURN hands over the line (R117, R118, R130). -/
theorem exec_frameEnd_data {r : State} {h : Header} (body : List Byte) (hr : r.inReset = false)
    (hup : r.linkUp = true) (hbusy : r.lnc.lineBusy = true) (hrx : r.frx.rx = some (.header h))
    (ht : h.type = some .data) :
    exec (.frameEnd body) r = .next ((r.lineReturns.acceptData h body).handover h).settle := by
  have hret : r.lineReturns.linkUp = true := (State.lineReturns_parts r).2.2.2.2.trans hup
  have hend : r.lineReturns.endOfFrame h body = (r.lineReturns.acceptData h body).handover h := by
    unfold State.linkUp at hret
    unfold State.endOfFrame
    cases hl : r.lineReturns.lnc.link with
    | up u => simp only [ht]
    | training t => simp [hl] at hret
    | disabled => simp [hl] at hret
    | down d => simp [hl] at hret
  refine (execFrameEnd_event body r hr).trans (congrArg Host.Outcome.next (State.event_some _ r _ hr ?_))
  simp only [State.receiveEnd, hbusy, if_true, hrx, hend]

/-- The records of a selection take the same room in the apply queue as in the journal (R39, R135). -/
theorem fits_wire {a : Apl} {rs : List Record} (hn : a.queue.length + rs.length ≤ 512)
    (hb : (a.queue.map fun q => ceil16 q.length).sum + (rs.map fun q => ceil16 q.length).sum ≤ 65536) :
    a.fits (rs.map Record.wire) = true := by
  have hbytes : ((rs.map Record.wire).map fun w => ceil16 w.length) = rs.map fun q => ceil16 q.length := by
    rw [List.map_map]
    rfl
  rw [Apl.fits, decide_eq_true_eq, List.length_map, hbytes]
  exact ⟨hn, hb⟩

/-- Settles O55: the sender's bytes read back as its header and records, which the five checks let pass. -/
theorem frameBuiltIsAcceptedWhole : Obligations.FrameBuiltIsAcceptedWhole := by
  intro s u hr hup hsub hframe hburst hsent hs hcount hformed
  have hopp : s.opportunity u = true := by
    simp [State.opportunity, hsub, hframe, hburst, State.somethingToSend, hs, hsent]
  obtain ⟨f, hf, hbytes⟩ := s.buildData_frame (s.turnMark u)
  obtain ⟨hmark, hheader, hbody⟩ := s.dataBytes_parts (s.turnMark u)
  have hstarted : (s.answerOpportunity u).settle.ftx.frame = some f := by
    rw [State.answerOpportunity_data u hs hcount, State.settle_ftx_of_up rfl, State.setLink_ftx, hf]
  refine ⟨_, f, exec_frameOpportunity hr hup hopp, hstarted, ?_⟩
  rw [hbytes, hmark, hheader, hbody, State.headerOf_dataHeader _ hs hformed]
  refine ⟨rfl, headerGood_encodeHeader _, fun r v hreset hlink hbusy hrx hexp hroom hroomBytes => ?_⟩
  have hupR : r.linkUp = true := by simp [State.linkUp, hlink]
  obtain ⟨hapl, -, hmgp, hfrx, -⟩ := r.lineReturns_parts
  have hexpected : r.lineReturns.frx.expected = s.jnl.sendPoint := by rw [hfrx]; exact hexp
  have haccept := State.acceptData_built (r := r.lineReturns) (s.turnMark u) hs hformed hexpected
    (by rw [hapl]; exact fits_wire hroom hroomBytes)
  refine ⟨_, exec_frameEnd_data s.dataBody hreset hupR hbusy hrx rfl, ?_⟩
  have hqueue : (r.lineReturns.acceptRecords (s.selection.map Record.wire)).apl = { r.apl with
      queue := r.apl.queue ++ applyRecords s.jnl.sendPoint (s.selection.map Record.wire) } := by
    rw [State.acceptRecords, hapl, hexpected]
  have hmoved : (r.lineReturns.acceptRecords (s.selection.map Record.wire)).frx.expected =
      s.jnl.sendPoint + BitVec.ofNat 32 s.selection.length := by
    rw [State.acceptRecords, hexpected, List.length_map]
  rw [haccept, State.handover_eq]
  exact ⟨hmoved, (State.selection_bounds hs hformed).1, hqueue, rfl, hmgp⟩

end Sys2Proof.Machine

namespace Sys2Proof.Machine

/-! ### A collision (R121 to R123) -/

/-- A collision cuts the frame and counts; the consecutive count decides between a back-off and DOWN (R121, R123). -/
theorem exec_collision {s : State} {u : Turn} {f : TxFrame} (hr : s.inReset = false) (hup : s.lnc.link = .up u)
    (hf : s.ftx.frame = some f) :
    let v : Turn := { u with collisions := u.collisions + 1 }
    let t := (s.cutFrame.lineContested.count .collisions).setLink (.up v)
    exec .collision s = .next (State.settle (if v.collisions < 4 then t.backOff v else t.goDown .collisions)) := by
  intro v t
  refine congrArg Host.Outcome.next (State.event_some _ s _ hr ?_)
  simp only [State.collide, State.turn, hup, hf]
  rfl

/-- There is no collision where the link is not UP or this node drives no frame (R121). -/
theorem State.collide_none {s : State} (h : s.linkUp = false ∨ s.ftx.frame = none) : s.collide = none := by
  unfold State.linkUp at h
  unfold State.collide State.turn
  cases hl : s.lnc.link with
  | up u =>
    have hf : s.ftx.frame = none := by simpa [hl] using h
    simp only [hf]
  | disabled => rfl
  | training t => rfl
  | down d => rfl

/-- The primary backs off for twice the guard (R122). -/
theorem State.backOff_primary {s : State} (u : Turn) (h : s.lnc.params.role = .primary) :
    s.backOff u = s.setLink (.up (u.toGuard s.now (2 * s.lnc.params.guard))) := by
  simp only [State.backOff, h]

/-- The secondary backs off to LISTEN (R122). -/
theorem State.backOff_secondary {s : State} (u : Turn) (h : s.lnc.params.role = .secondary) :
    s.backOff u = s.setLink (.up (u.toListen s.now s.lnc.params.silence)) := by
  simp only [State.backOff, h]

/-- Settles O29: below 4 the roles back off, at 4 the link falls, and without a frame or UP there is no event. -/
theorem collisionBacksOffByRole : Obligations.CollisionBacksOffByRole := by
  constructor
  · intro s u f hr hup hf mgp
    rw [exec_collision hr hup hf]
    refine ⟨fun hfew => ?_, fun hmany => ?_⟩
    · rw [if_pos hfew]
      cases hrole : s.lnc.params.role with
      | primary =>
        rw [State.backOff_primary]
        · rfl
        · exact hrole
      | secondary =>
        rw [State.backOff_secondary]
        · rfl
        · exact hrole
    · rw [if_neg (Nat.not_lt.2 hmany), State.goDown_joined _ _ rfl]
      rfl
  · intro s hr hnone
    exact congrArg Host.Outcome.next (State.event_none _ s (State.collide_none hnone))

/-! ### A frame mark (R111, R116, R117, R127) -/

/-- A frame mark outside RESET is an event (R117). -/
theorem execFrameMarkDetected_event {s : State} (h : s.inReset = false) :
    exec .frameMarkDetected s = .next (s.event State.detectMark) := by
  show execFrameMarkDetected s = _
  simp [execFrameMarkDetected, h]

/-- The link after a mark is detected: an UP node is in LISTEN, with the silence timer held (R111, R117). -/
def Link.marked : Link → Link
  | .up u => .up u.toListenHeld
  | .disabled => .disabled
  | .training t => .training t
  | .down d => .down d

/-- A mark on a line that this node does not drive is received in TRAINING and UP, and puts an UP node in LISTEN
(R111, R117, R127). -/
theorem State.detectMark_heard {s : State} (hbusy : s.lnc.lineBusy = false) (hf : s.ftx.frame = none) :
    s.detectMark = some { s with
      frx := { s.frx with rx := if s.lnc.link.joined then some .marked else s.frx.rx }
      lnc := { s.lnc with lineBusy := true, lineMet := false, link := s.lnc.link.marked } } := by
  simp only [State.detectMark, hbusy, hf]
  cases hl : s.lnc.link with
  | up u => rfl
  | training t => simp [State.lineTaken, Link.joined, Link.marked, hl]
  | disabled => simp [State.lineTaken, Link.joined, Link.marked, hl]
  | down d => simp [State.lineTaken, Link.joined, Link.marked, hl]

/-- Settles O32: by whether a peer frame is on the line and whether this node drives it. -/
theorem frameMarkStartsReception : Obligations.FrameMarkStartsReception := by
  intro s hr
  rw [execFrameMarkDetected_event hr]
  refine ⟨fun hbusy hf => ?_, fun hbusy hf => ?_, fun hbusy => ?_⟩
  · rw [State.event_some _ s _ hr (State.detectMark_heard hbusy hf)]
    cases hl : s.lnc.link <;> rfl
  · have hmeets : s.detectMark = some s.lineContested := by
      simp [State.detectMark, hbusy, Option.isSome_iff_ne_none.2 hf]
    rw [State.event_some _ s _ hr hmeets]
    rfl
  · exact congrArg _ (State.event_none _ s (by simp [State.detectMark, hbusy]))

/-! ### Headers (R119, R127, R157, R182) -/

/-- The 20 bytes of a header after its mark are an event (R127). -/
theorem exec_headerReceived {s t : State} {bytes : List Byte} (hr : s.inReset = false)
    (ht : s.receiveHeader bytes = some t) : exec (.headerReceived bytes) s = .next t.settle :=
  congrArg Host.Outcome.next (State.event_some _ s _ hr ht)

/-- A good header is counted and taken, and then acts by link state and type (R119, R127). -/
theorem State.receiveHeader_good {s : State} {bytes : List Byte} (hrx : s.frx.rx = some .marked)
    (hlen : bytes.length = 20) (hgood : headerGood bytes = true) :
    s.receiveHeader bytes = some ((s.heard (headerOf bytes)).actOnHeader (headerOf bytes)) := by
  rw [State.receiveHeader, if_pos ⟨hrx, hlen⟩, if_pos hgood]
  rfl

/-- A bad header is counted, and nothing of it is read (R119). -/
theorem State.receiveHeader_bad {s : State} {bytes : List Byte} (hrx : s.frx.rx = some .marked)
    (hlen : bytes.length = 20) (hbad : headerGood bytes = false) :
    s.receiveHeader bytes = some { s with
      frx := { s.frx with rx := some .badHeader }
      mgp := s.mgp.count .hdrCrcErr } := by
  rw [State.receiveHeader, if_pos ⟨hrx, hlen⟩, hbad]
  rfl

/-- No header acts in TRAINING (R127). -/
theorem State.actOnHeader_training {s : State} {t : Training} (h : Header) (hl : s.lnc.link = .training t) :
    s.actOnHeader h = s := by
  simp only [State.actOnHeader, hl]

/-- In UP a HELLO with REPLY, a START and an undefined type do not act at the header (R127, R182). -/
theorem State.actOnHeader_ignored {s : State} {u : Turn} {h : Header} (hup : s.lnc.link = .up u)
    (ht : h.type = none ∨ h.type = some .start ∨ (h.type = some .hello ∧ h.reply = true)) : s.actOnHeader h = s := by
  rcases ht with ht | ht | ⟨ht, hreply⟩
  · simp only [State.actOnHeader, hup, ht]
  · simp only [State.actOnHeader, hup, ht]
  · simp only [State.actOnHeader, hup, ht, hreply, if_true]

/-- In UP a HELLO without REPLY says that the peer trains again (R157). -/
theorem State.actOnHeader_hello {s : State} {u : Turn} {h : Header} (hup : s.lnc.link = .up u)
    (ht : h.type = some .hello) (hreply : h.reply = false) : s.actOnHeader h = s.goDown .peerRetrain := by
  simp only [State.actOnHeader, hup, ht, hreply, Bool.false_eq_true, if_false]

/-- Settles O34: a bad header, and the good ones by link state and type. -/
theorem otherHeaders : Obligations.OtherHeaders := by
  intro s bytes hr hrx hlen h quiet
  refine ⟨fun hbad => ?_, fun hgood ⟨t, hl⟩ => ?_, fun hgood ⟨u, hup⟩ ht => ?_, fun hgood ⟨u, hup⟩ ht hreply => ?_⟩
  · exact exec_headerReceived hr (State.receiveHeader_bad hrx hlen hbad)
  · rw [exec_headerReceived hr (State.receiveHeader_good hrx hlen hgood),
      State.actOnHeader_training (s := s.heard h) h hl]
    rfl
  · rw [exec_headerReceived hr (State.receiveHeader_good hrx hlen hgood),
      State.actOnHeader_ignored (s := s.heard h) hup ht]
    rfl
  · rw [exec_headerReceived hr (State.receiveHeader_good hrx hlen hgood),
      State.actOnHeader_hello (s := s.heard h) hup ht hreply,
      State.goDown_joined _ (s.heard h) (congrArg Link.joined hup)]
    rfl

end Sys2Proof.Machine

namespace Sys2Proof.Machine

/-! ### Acceptance of a DATA frame (R117, R118, R130 to R136) -/

/-- A body that reads back holds as many records as were asked for (R132). -/
theorem parseRecords_length (n : Nat) (bytes : List Byte) (ws : List WireRecord)
    (h : parseRecords n bytes = some ws) : ws.length = n := by
  induction n generalizing bytes ws with
  | zero =>
    cases h
    rfl
  | succ n ih =>
    rw [parseRecords_succ] at h
    obtain ⟨first, -, h⟩ := Option.bind_eq_some_iff.1 h
    obtain ⟨others, hothers, rfl⟩ := Option.map_eq_some_iff.1 h
    rw [List.length_cons, ih _ _ hothers]

/-- A frame that is not malformed carries as many records as its header counts, at most 64 (R132). -/
theorem frameRecords_length {h : Header} {body : List Byte} {recs : List WireRecord}
    (hrecs : frameRecords h body = some recs) : recs.length = h.count ∧ h.count ≤ 64 := by
  unfold frameRecords at hrecs
  split at hrecs
  · cases hrecs
  · next hformed =>
    have hcount : ¬64 < h.count := fun hmany => hformed (.inr (.inr hmany))
    exact ⟨parseRecords_length _ _ _ hrecs, Nat.not_lt.1 hcount⟩

/-- Check 1: a bad or short body (R131). -/
theorem State.acceptData_badBody {s : State} {h : Header} {body : List Byte}
    (hbad : h.lengthClass ≤ 5 ∧ bodyGood h.lengthClass body = false) :
    s.acceptData h body = (s.count .bodyCrcErr).raiseNak .crc := by
  rw [State.acceptData, if_pos hbad]

/-- Check 2: a malformed frame (R132). -/
theorem State.acceptData_malformed {s : State} {h : Header} {body : List Byte}
    (hgood : ¬(h.lengthClass ≤ 5 ∧ bodyGood h.lengthClass body = false)) (hrecs : frameRecords h body = none) :
    s.acceptData h body = (s.raise .linkProtocol).raiseNak .format := by
  rw [State.acceptData, if_neg hgood, hrecs]

/-- The records of a good frame come to the three checks of their order and room (R130). -/
theorem State.acceptData_records {s : State} {h : Header} {body : List Byte} {recs : List WireRecord}
    (hgood : ¬(h.lengthClass ≤ 5 ∧ bodyGood h.lengthClass body = false)) (hrecs : frameRecords h body = some recs) :
    s.acceptData h body = s.acceptInOrder h.firstSeq recs := by
  rw [State.acceptData, if_neg hgood, hrecs]

/-- Check 3: records are missing between E and F (R133). -/
theorem State.acceptInOrder_gap {s : State} {first : Seq} (recs : List WireRecord)
    (hgap : precedes s.frx.expected first = true ∨ (first - s.frx.expected).toNat = 2 ^ 31) :
    s.acceptInOrder first recs = s.raiseNak .gap := by
  rw [State.acceptInOrder]
  exact if_pos hgap

/-- A seq at or before another stands 0 up to 2^31 - 1 before it (00_scope). -/
theorem atOrBefore_iff_toNat (a b : Seq) : atOrBefore a b = true ↔ (b - a).toNat < 2 ^ 31 := by
  rw [atOrBefore_iff, precedes_iff]
  constructor
  · rintro (rfl | ⟨-, hlt⟩)
    · simp
    · exact hlt
  · intro hlt
    rcases Nat.eq_zero_or_pos (b - a).toNat with hz | hpos
    · left
      bv_omega
    · exact .inr ⟨hpos, hlt⟩

/-- Where F stands at or before E there is no gap (R133). -/
theorem not_gap_of_atOrBefore {e f : Seq} (h : atOrBefore f e = true) :
    ¬(precedes e f = true ∨ (f - e).toNat = 2 ^ 31) := by
  rw [atOrBefore_iff_toNat] at h
  rw [precedes_iff]
  bv_omega

/-- Check 4: every record has come before (R134). -/
theorem State.acceptInOrder_duplicate {s : State} {first : Seq} {recs : List WireRecord}
    (hfirst : atOrBefore first s.frx.expected = true)
    (hend : atOrBefore (first + BitVec.ofNat 32 recs.length) s.frx.expected = true) :
    s.acceptInOrder first recs = s.count .duplicates := by
  rw [State.acceptInOrder]
  exact (if_neg (not_gap_of_atOrBefore hfirst)).trans (if_pos hend)

/-- Check 5: the records from E on do not fit the apply queue (R135). -/
theorem State.acceptInOrder_busy {s : State} {first : Seq} {recs : List WireRecord}
    (hfirst : atOrBefore first s.frx.expected = true)
    (hend : atOrBefore (first + BitVec.ofNat 32 recs.length) s.frx.expected = false)
    (hfull : ¬s.apl.fits (recs.drop (s.frx.expected - first).toNat) = true) :
    s.acceptInOrder first recs = s.raiseNak .busy := by
  rw [State.acceptInOrder]
  exact (if_neg (not_gap_of_atOrBefore hfirst)).trans ((if_neg (by simp [hend])).trans (if_neg hfull))

/-- The records from E on are taken (R135). -/
theorem State.acceptInOrder_new {s : State} {first : Seq} {recs : List WireRecord}
    (hfirst : atOrBefore first s.frx.expected = true)
    (hend : atOrBefore (first + BitVec.ofNat 32 recs.length) s.frx.expected = false)
    (hfits : s.apl.fits (recs.drop (s.frx.expected - first).toNat) = true) :
    s.acceptInOrder first recs = s.acceptRecords (recs.drop (s.frx.expected - first).toNat) := by
  rw [State.acceptInOrder]
  exact (if_neg (not_gap_of_atOrBefore hfirst)).trans ((if_neg (by simp [hend])).trans (if_pos hfits))

/-- The records from E on end where the frame ends (R135). -/
theorem expected_add_new {e f : Seq} {recs : List WireRecord} (hcount : recs.length ≤ 64)
    (hfirst : atOrBefore f e = true) (hend : atOrBefore (f + BitVec.ofNat 32 recs.length) e = false) :
    e + BitVec.ofNat 32 (recs.drop (e - f).toNat).length = f + BitVec.ofNat 32 recs.length := by
  rw [atOrBefore_iff_toNat] at hfirst
  rw [← Bool.not_eq_true, atOrBefore_iff_toNat] at hend
  rw [List.length_drop]
  generalize recs.length = n at *
  have hle : (e - f).toNat ≤ n := by bv_omega
  bv_omega

/-- The room that new records need in the apply queue (R135). -/
theorem Apl.fits_iff (a : Apl) (new : List WireRecord) : a.fits new = true ↔ a.queue.length + new.length ≤ 512 ∧
    applyBytesOf a.queue + (new.map fun w => ceil16 w.length).sum ≤ 65536 :=
  decide_eq_true_iff

/-! ### The end of a frame heard in LISTEN (R117, R118) -/

/-- The examination of a DATA frame leaves LNC and the timebase alone (R130). -/
theorem State.acceptData_link (h : Header) (body : List Byte) (s : State) :
    (s.acceptData h body).lnc = s.lnc ∧ (s.acceptData h body).now = s.now := by
  by_cases hbad : h.lengthClass ≤ 5 ∧ bodyGood h.lengthClass body = false
  · rw [State.acceptData_badBody hbad]
    exact ⟨rfl, rfl⟩
  · cases hrecs : frameRecords h body with
    | none =>
      rw [State.acceptData_malformed hbad hrecs]
      exact ⟨rfl, rfl⟩
    | some recs =>
      rw [State.acceptData_records hbad hrecs]
      unfold State.acceptInOrder
      dsimp only
      (repeat' split) <;> exact ⟨rfl, rfl⟩

/-- LNC once the line has returned to idle after a frame heard in LISTEN: TURN hands the line over, and otherwise
the silence timer starts again (R117, R118). -/
def State.lncAtEnd (s : State) (u : Turn) (turn : Bool) : Lnc := { s.lnc with
  lineBusy := false
  lineMet := false
  link := .up (if turn
    then { u with sub := .guard, guard := some ⟨s.now, s.lnc.params.guard⟩, dwell := none, silence := .stopped }
    else { u with guard := none, dwell := none, silence := .running ⟨s.now, s.lnc.params.silence⟩ }) }

/-- The hand-over after the line's return to idle in LISTEN (R117, R118). -/
theorem State.handover_returned {s t : State} {u : Turn} (h : Header) (hup : s.lnc.link = .up u)
    (hsub : u.sub = .listen) (hlnc : t.lnc = s.lineReturns.lnc) (hnow : t.now = s.lineReturns.now) :
    t.handover h = { t with lnc := s.lncAtEnd u h.turn } := by
  rw [s.lineReturns_listen u hup hsub] at hlnc hnow
  obtain ⟨_, _, _, _, _, _, _, _, _, _, _, _, _, _⟩ := t
  subst hlnc hnow
  unfold State.handover State.lncAtEnd
  cases h.turn <;> rfl

/-- A DATA frame heard in LISTEN ends: what its examination does, with LNC's part (R117, R118, R130). -/
theorem exec_frameEnd_examined {s t : State} {u : Turn} {h : Header} {body : List Byte} (hr : s.inReset = false)
    (hup : s.lnc.link = .up u) (hsub : u.sub = .listen) (hbusy : s.lnc.lineBusy = true)
    (hrx : s.frx.rx = some (.header h)) (htype : h.type = some .data)
    (ht : s.lineReturns.acceptData h body = t) :
    exec (.frameEnd body) s = .next (State.settle { t with lnc := s.lncAtEnd u h.turn }) := by
  obtain ⟨hlnc, hnow⟩ := State.acceptData_link h body s.lineReturns
  have hlinkUp : s.linkUp = true := by simp [State.linkUp, hup]
  rw [exec_frameEnd_data body hr hlinkUp hbusy hrx htype, State.handover_returned h hup hsub hlnc hnow, ht]

/-- Settles O35: the five checks in order, each with LNC's part at the end of the frame. -/
theorem dataFrameEnd : Obligations.DataFrameEnd := by
  refine ⟨fun _ _ _ => ⟨rfl, rfl⟩, fun _ => rfl, fun _ => rfl, ?_⟩
  intro s u h body hr hup hsub hheld hbusy hrx htype e f n lnc nak badBody
  have hend : ∀ {t : State}, s.lineReturns.acceptData h body = t →
      exec (.frameEnd body) s = .next (State.settle { t with lnc := lnc }) :=
    exec_frameEnd_examined hr hup hsub hbusy hrx htype
  rw [s.lineReturns_listen u hup hsub] at hend
  refine ⟨fun hbad => (hend (State.acceptData_badBody hbad)).trans rfl,
    fun hgood hnone => (hend (State.acceptData_malformed hgood hnone)).trans rfl, fun recs hgood hrecs => ?_⟩
  obtain ⟨hlength, hcount⟩ := frameRecords_length hrecs
  have hn : n = BitVec.ofNat 32 recs.length := by rw [hlength]
  rw [State.acceptData_records hgood hrecs] at hend
  rw [hn]
  refine ⟨fun hgap => (hend (State.acceptInOrder_gap recs hgap)).trans rfl,
    fun hfirst hlast => (hend (State.acceptInOrder_duplicate hfirst hlast)).trans rfl, ?_⟩
  intro hfirst hlast new fits
  refine ⟨fun hfull => ?_, fun hfits => ?_⟩
  · exact (hend (State.acceptInOrder_busy hfirst hlast ((Apl.fits_iff s.apl new).not.2 hfull))).trans rfl
  · rw [← expected_add_new (hlength ▸ hcount) hfirst hlast]
    exact (hend (State.acceptInOrder_new hfirst hlast ((Apl.fits_iff s.apl new).2 hfits))).trans rfl

end Sys2Proof.Machine

namespace Sys2Proof.Machine

/-! ### The end of a frame by what was received of it (R117, R119, R127, R130) -/

/-- The end of a frame on the line is an event that the reception decides (R130). -/
theorem exec_frameEnd {s t : State} {rest : List Byte} (hr : s.inReset = false) (ht : s.receiveEnd rest = some t) :
    exec (.frameEnd rest) s = .next t.settle :=
  (execFrameEnd_event rest s hr).trans (congrArg Host.Outcome.next (State.event_some _ s _ hr ht))

/-- A frame with a good header acts at its end by link state and type (R127). -/
theorem State.receiveEnd_header {s : State} {h : Header} (rest : List Byte) (hbusy : s.lnc.lineBusy = true)
    (hrx : s.frx.rx = some (.header h)) : s.receiveEnd rest = some (s.lineReturns.endOfFrame h rest) := by
  simp only [State.receiveEnd, hbusy, if_true, hrx]

/-- A frame that ends before its 22nd byte has a bad header (R119). -/
theorem State.receiveEnd_short {s : State} (rest : List Byte) (hbusy : s.lnc.lineBusy = true)
    (hrx : s.frx.rx = some .marked) : s.receiveEnd rest = some (s.lineReturns.count .hdrCrcErr) := by
  simp only [State.receiveEnd, hbusy, if_true, hrx]

/-- A frame with a bad header was counted when the header came (R119). -/
theorem State.receiveEnd_badHeader {s : State} (rest : List Byte) (hbusy : s.lnc.lineBusy = true)
    (hrx : s.frx.rx = some .badHeader) : s.receiveEnd rest = some s.lineReturns := by
  simp only [State.receiveEnd, hbusy, if_true, hrx]

/-- Of a frame that is not received only the line's return to idle counts (R117). -/
theorem State.receiveEnd_unreceived {s : State} (rest : List Byte) (hbusy : s.lnc.lineBusy = true)
    (hrx : s.frx.rx = none) : s.receiveEnd rest = some s.lineReturns := by
  simp only [State.receiveEnd, hbusy, if_true, hrx]

/-! ### Frames without records that end in UP (R117, R118) -/

/-- A CTRL frame hands over the line at its end, whatever follows its header (R118). -/
theorem State.endOfFrame_ctrl {s : State} {h : Header} (rest : List Byte) (hup : s.linkUp = true)
    (htype : h.type = some .ctrl) : s.endOfFrame h rest = s.handover h := by
  obtain ⟨u, hu⟩ := s.linkUp_iff.1 hup
  simp only [State.endOfFrame, hu, htype]

/-- In UP training frames and undefined types take no part in turns (R118, R182). -/
theorem State.endOfFrame_noTurn {s : State} {h : Header} (rest : List Byte) (hup : s.linkUp = true)
    (htype : h.type = none ∨ h.type = some .hello ∨ h.type = some .start) : s.endOfFrame h rest = s := by
  obtain ⟨u, hu⟩ := s.linkUp_iff.1 hup
  rcases htype with ht | ht | ht <;> simp only [State.endOfFrame, hu, ht]

/-! ### The end of a frame whose mark was not detected (R117, R122) -/

theorem State.listening_iff (s : State) : s.listening = true ↔ ∃ u, s.lnc.link = .up u ∧ u.sub = .listen := by
  unfold State.listening
  cases s.lnc.link <;> simp

/-- In LISTEN the silence timer starts again from the full silence value (R117). -/
theorem State.restartSilence_listen {s : State} {u : Turn} (hup : s.lnc.link = .up u) (hsub : u.sub = .listen) :
    s.restartSilence = s.setLink (.up { u with
      guard := none, dwell := none, silence := .running ⟨s.now, s.lnc.params.silence⟩ }) := by
  simp [State.restartSilence, Turn.toListen, hup, hsub]

/-- Outside LISTEN there is no silence timer to start (R117). -/
theorem State.restartSilence_apart {s : State} (h : s.listening = false) : s.restartSilence = s := by
  unfold State.restartSilence
  split
  · next u hup =>
    refine if_neg fun hsub => ?_
    rw [s.listening_iff.2 ⟨u, hup, hsub⟩] at h
    cases h
  · rfl

/-- Where no detected frame is on the line its return to idle ends a frame met, and nothing else. -/
theorem State.lineReleased_free {s : State} (hfree : s.lnc.lineBusy = false) :
    s.lineReleased = { s with lnc := { s.lnc with lineMet := false } } := by
  rw [State.lineReleased, ← hfree]

/-- The line's return to idle after a frame that was met, or that LISTEN waits for (R117, R122). -/
theorem State.receiveEnd_unheard {s : State} (rest : List Byte) (hfree : s.lnc.lineBusy = false)
    (h : s.lnc.lineMet = true ∨ s.listening = true) :
    s.receiveEnd rest = some { s with lnc := { s.lnc with lineMet := false } }.restartSilence := by
  have hends : (s.lnc.lineMet || s.listening) = true := by simpa using h
  simp only [State.receiveEnd, hfree, State.unheardEnd, hends, State.lineReleased_free hfree, if_true,
    Bool.false_eq_true, if_false]

/-- Elsewhere no frame ends on an idle line. -/
theorem State.receiveEnd_none {s : State} (rest : List Byte) (hfree : s.lnc.lineBusy = false)
    (hmet : s.lnc.lineMet = false) (h : s.listening = false) : s.receiveEnd rest = none := by
  simp [State.receiveEnd, State.unheardEnd, hfree, hmet, h]

/-! ### Training frames by type and phase (R158 to R160) -/

theorem State.linkUp_training {s : State} {t : Training} (hl : s.lnc.link = .training t) : s.linkUp = false := by
  simp only [State.linkUp, hl]

/-- A frame acts at its end in TRAINING when its body is good (R158). -/
theorem State.endOfFrame_training {s : State} {t : Training} (h : Header) (rest : List Byte)
    (hl : s.lnc.link = .training t) :
    s.endOfFrame h rest = if bodyGood 0 rest then s.trainingFrame t h rest else s := by
  simp only [State.endOfFrame, hl]

/-- Frames of other types are ignored in TRAINING (R158). -/
theorem State.trainingFrame_otherType {h : Header} (t : Training) (rest : List Byte) (s : State)
    (htype : h.type = none ∨ h.type = some .data ∨ h.type = some .ctrl) : s.trainingFrame t h rest = s := by
  rcases htype with ht | ht | ht <;> simp only [State.trainingFrame, ht]

/-- A HELLO of undefined role or window is ignored (R158, R182). -/
theorem State.trainingFrame_badHello {h : Header} {rest : List Byte} (t : Training) (s : State)
    (htype : h.type = some .hello) (hb : helloOf rest = none) : s.trainingFrame t h rest = s := by
  simp only [State.trainingFrame, htype, hb]

/-- A START of undefined decision is ignored (R158, R182). -/
theorem State.trainingFrame_badStart {h : Header} {rest : List Byte} (t : Training) (s : State)
    (htype : h.type = some .start) (hd : decisionOf (rest.getD 0 0) = none) : s.trainingFrame t h rest = s := by
  simp only [State.trainingFrame, htype, hd]

/-- In the primary's phases a good HELLO is heard by R159. -/
theorem State.trainingFrame_helloAtPrimary {t : Training} {h : Header} {rest : List Byte} {b : HelloBody} (s : State)
    (htype : h.type = some .hello) (hb : helloOf rest = some b) (hp : t.phase = .calling ∨ t.phase = .starting) :
    s.trainingFrame t h rest = s.helloAtPrimary t h b := by
  rcases hp with hp | hp <;> simp only [State.trainingFrame, htype, hb, hp]

/-- In the secondary's phases a good HELLO is heard by R160. -/
theorem State.trainingFrame_helloAtSecondary {t : Training} {h : Header} {rest : List Byte} {b : HelloBody}
    (s : State) (htype : h.type = some .hello) (hb : helloOf rest = some b)
    (hp : t.phase = .waiting ∨ t.phase = .replying ∨ t.phase = .replied) :
    s.trainingFrame t h rest = s.helloAtSecondary t h b := by
  rcases hp with hp | hp | hp <;> simp only [State.trainingFrame, htype, hb, hp]

/-- A good START comes to the secondary's phase (R160). -/
theorem State.trainingFrame_start {t : Training} {h : Header} {rest : List Byte} {d : Decision} (s : State)
    (htype : h.type = some .start) (hd : decisionOf (rest.getD 0 0) = some d) :
    s.trainingFrame t h rest = s.startAtSecondary t d := by
  simp only [State.trainingFrame, htype, hd]

/-- The primary ignores a REPLY of another primary, and every REPLY in STARTING (R159). -/
theorem State.helloAtPrimary_reply {t : Training} {h : Header} {b : HelloBody} (s : State) (hreply : h.reply = true)
    (hignored : b.role = .primary ∨ t.phase = .starting) : s.helloAtPrimary t h b = s := by
  unfold State.helloAtPrimary
  rw [hreply]
  cases hrole : b.role with
  | primary => rfl
  | secondary =>
    have hphase : t.phase = .starting := by simpa [hrole] using hignored
    simp [hphase]

/-- A HELLO without REPLY of a secondary is ignored at the primary (R159). -/
theorem State.helloAtPrimary_secondary {h : Header} {b : HelloBody} (t : Training) (s : State)
    (hreply : h.reply = false) (hrole : b.role = .secondary) : s.helloAtPrimary t h b = s := by
  simp only [State.helloAtPrimary, hreply, hrole]

/-- The secondary ignores every REPLY, and a HELLO of another secondary (R160). -/
theorem State.helloAtSecondary_ignored {h : Header} {b : HelloBody} (t : Training) (s : State)
    (hignored : h.reply = true ∨ b.role = .secondary) : s.helloAtSecondary t h b = s := by
  unfold State.helloAtSecondary
  cases hreply : h.reply with
  | true => rfl
  | false =>
    have hrole : b.role = .secondary := by simpa [hreply] using hignored
    rw [hrole]

/-- A START is ignored in every phase but REPLIED (R159, R160). -/
theorem State.startAtSecondary_ignored {t : Training} (d : Decision) (s : State) (hp : t.phase ≠ .replied) :
    s.startAtSecondary t d = s := by
  unfold State.startAtSecondary
  split
  · next hphase _ => exact absurd hphase hp
  · rfl

/-- A HELLO without REPLY of a secondary is ignored in every phase (R159, R160). -/
theorem State.trainingFrame_secondaryCalls {t : Training} {h : Header} {rest : List Byte} {b : HelloBody} (s : State)
    (htype : h.type = some .hello) (hb : helloOf rest = some b) (hreply : h.reply = false)
    (hrole : b.role = .secondary) : s.trainingFrame t h rest = s := by
  have hprimary := State.helloAtPrimary_secondary t s hreply hrole
  have hsecondary := State.helloAtSecondary_ignored (h := h) t s (.inr hrole)
  cases hp : t.phase with
  | calling => exact (State.trainingFrame_helloAtPrimary s htype hb (.inl hp)).trans hprimary
  | starting => exact (State.trainingFrame_helloAtPrimary s htype hb (.inr hp)).trans hprimary
  | waiting => exact (State.trainingFrame_helloAtSecondary s htype hb (.inl hp)).trans hsecondary
  | replying => exact (State.trainingFrame_helloAtSecondary s htype hb (.inr (.inl hp))).trans hsecondary
  | replied => exact (State.trainingFrame_helloAtSecondary s htype hb (.inr (.inr hp))).trans hsecondary

/-- A START is ignored at the primary, whatever its decision (R159). -/
theorem State.trainingFrame_startAtPrimary {t : Training} {h : Header} (rest : List Byte) (s : State)
    (htype : h.type = some .start) (hp : t.phase = .calling ∨ t.phase = .starting) : s.trainingFrame t h rest = s := by
  have hphase : t.phase ≠ .replied := by rcases hp with hp | hp <;> simp [hp]
  cases hd : decisionOf (rest.getD 0 0) with
  | none => exact State.trainingFrame_badStart t s htype hd
  | some d => exact (State.trainingFrame_start s htype hd).trans (State.startAtSecondary_ignored d s hphase)

/-- A training frame acts at its end when its body is good (R158). -/
theorem exec_frameEnd_training {s : State} {t : Training} {h : Header} {rest : List Byte} (hr : s.inReset = false)
    (hl : s.lnc.link = .training t) (hbusy : s.lnc.lineBusy = true) (hrx : s.frx.rx = some (.header h)) :
    exec (.frameEnd rest) s = .next (State.settle
      (if bodyGood 0 rest then s.lineReturns.trainingFrame t h rest else s.lineReturns)) := by
  have hlink : s.lineReturns.lnc.link = .training t := by
    rw [s.lineReturns_apart (State.linkUp_training hl)]
    exact hl
  rw [exec_frameEnd hr (State.receiveEnd_header rest hbusy hrx), State.endOfFrame_training h rest hlink]

/-- Settles O36: frames heard in LISTEN, frames not detected, and the frames ignored outside UP. -/
theorem otherFrameEnds : Obligations.OtherFrameEnds := by
  refine ⟨?up, ?unheard, ?apart⟩
  case up =>
    intro s u rest hr hup hsub hheld hbusy after
    have hreturns := s.lineReturns_listen u hup hsub
    have hlinkUp : s.lineReturns.linkUp = true := by
      rw [hreturns]
      rfl
    refine ⟨fun h hrx ht => ?_, fun h hrx ht => ?_, fun hrx => ?_, fun hrx => ?_, fun hrx => ?_⟩
    · refine (exec_frameEnd hr (State.receiveEnd_header rest hbusy hrx)).trans ?_
      rw [State.endOfFrame_ctrl rest hlinkUp ht, State.handover_returned h hup hsub rfl rfl, hreturns]
      rfl
    · refine (exec_frameEnd hr (State.receiveEnd_header rest hbusy hrx)).trans ?_
      rw [State.endOfFrame_noTurn rest hlinkUp ht, hreturns]
      rfl
    · refine (exec_frameEnd hr (State.receiveEnd_badHeader rest hbusy hrx)).trans ?_
      rw [hreturns]
      rfl
    · refine (exec_frameEnd hr (State.receiveEnd_short rest hbusy hrx)).trans ?_
      rw [hreturns]
      rfl
    · refine (exec_frameEnd hr (State.receiveEnd_unreceived rest hbusy hrx)).trans ?_
      rw [hreturns]
      rfl
  case unheard =>
    intro s rest hr hfree
    refine ⟨fun u hup hsub => ?_, fun hnot => ?_⟩
    · have hlisten : s.listening = true := s.listening_iff.2 ⟨u, hup, hsub⟩
      rw [exec_frameEnd hr (State.receiveEnd_unheard rest hfree (.inr hlisten)),
        State.restartSilence_listen (s := { s with lnc := { s.lnc with lineMet := false } }) hup hsub]
      rfl
    · have hlisten : s.listening = false := by
        rw [← Bool.not_eq_true, s.listening_iff]
        exact fun ⟨u, hup, hsub⟩ => hnot u hup hsub
      refine ⟨fun hmet => ?_, fun hmet => ?_⟩
      · rw [exec_frameEnd hr (State.receiveEnd_unheard rest hfree (.inl hmet)),
          State.restartSilence_apart (s := { s with lnc := { s.lnc with lineMet := false } }) hlisten]
      · exact (execFrameEnd_event rest s hr).trans
          (congrArg Host.Outcome.next (State.event_none _ s (State.receiveEnd_none rest hfree hmet hlisten)))
  case apart =>
    intro s rest hr hbusy ignored
    refine ⟨fun hup hrx => ?_, fun t hl => ?_⟩
    · refine (exec_frameEnd hr (State.receiveEnd_unreceived rest hbusy hrx)).trans ?_
      rw [s.lineReturns_apart hup]
    have hreturns := s.lineReturns_apart (State.linkUp_training hl)
    have hend : ∀ h, s.frx.rx = some (.header h) →
        (bodyGood 0 rest = true → s.lineReturns.trainingFrame t h rest = s.lineReturns) → ignored s.mgp := by
      intro h hrx hignored
      refine (exec_frameEnd_training hr hl hbusy hrx).trans ?_
      rw [ite_eq_right_iff.2 hignored, hreturns]
    refine ⟨fun hrx => ?_, fun hrx => ?_, fun h hrx => ?_⟩
    · refine (exec_frameEnd hr (State.receiveEnd_short rest hbusy hrx)).trans ?_
      rw [hreturns]
      rfl
    · refine (exec_frameEnd hr (State.receiveEnd_badHeader rest hbusy hrx)).trans ?_
      rw [hreturns]
    refine ⟨fun ht => ?_, fun hbody => ?_, fun ht hb => ?_, fun ht hd => ?_, fun b ht hb => ?_, fun ht hp => ?_⟩
    · exact hend h hrx fun _ => State.trainingFrame_otherType t rest _ ht
    · exact hend h hrx fun hgood => absurd hgood (by simp [hbody])
    · exact hend h hrx fun _ => State.trainingFrame_badHello t _ ht hb
    · exact hend h hrx fun _ => State.trainingFrame_badStart t _ ht hd
    · refine ⟨fun hp hreply hrole => ?_, fun hp hreply _ => ?_, fun hreply hrole => ?_, fun hp hreply => ?_⟩
      · exact hend h hrx fun _ => (State.trainingFrame_helloAtPrimary _ ht hb hp).trans
          (State.helloAtPrimary_reply _ hreply (.inl hrole))
      · exact hend h hrx fun _ => (State.trainingFrame_helloAtPrimary _ ht hb (.inr hp)).trans
          (State.helloAtPrimary_reply _ hreply (.inr hp))
      · exact hend h hrx fun _ => State.trainingFrame_secondaryCalls _ ht hb hreply hrole
      · exact hend h hrx fun _ => (State.trainingFrame_helloAtSecondary _ ht hb hp).trans
          (State.helloAtSecondary_ignored t _ (.inl hreply))
    · exact hend h hrx fun _ => State.trainingFrame_startAtPrimary rest _ ht hp

end Sys2Proof.Machine

namespace Sys2Proof.Machine

/-! ### Events that stay pending through a NEW decision (R72, R162, R176) -/

/-- The expiry of a hold takes no pending kind back (R67, R176). -/
theorem State.expireHold_keeps_pending (g : Tag) (s : State) (i : Fin 16) (h : s.mgp.events[i].pending = true) :
    (s.expireHold g).mgp.events[i].pending = true := by
  have hraised : ((s.raise .syncTimeout).count .syncTimeouts).mgp.events[i].pending = true :=
    Mgp.raise_keeps_pending .syncTimeout s.mgp i h
  unfold State.expireHold
  split
  · exact h
  · next k _ =>
    split
    · cases k.action with
      | fail => exact hraised
      | degrade => exact hraised
    · exact h

/-- The pass of HLD takes no pending kind back (R72, R176). -/
theorem State.holdsNew_keeps_pending (s : State) (i : Fin 16) (h : s.mgp.events[i].pending = true) :
    s.holdsNew.mgp.events[i].pending = true :=
  List.foldlRecOn (motive := fun t : State => t.mgp.events[i].pending = true) _ _ h
    fun t ht k _ => t.expireHold_keeps_pending k.tag i ht

/-- A NEW decision takes no pending kind back (R162, R176). -/
theorem State.blocksNew_keeps_pending (s : State) (i : Fin 16) (h : s.mgp.events[i].pending = true) :
    s.blocksNew.mgp.events[i].pending = true := by
  rw [State.blocksNew_mgp]
  exact List.foldlRecOn (motive := fun m : Mgp => m.events[i].pending = true) _ _ (s.holdsNew_keeps_pending i h)
    fun m hm _ _ => Mgp.raise_keeps_pending .regionDiverged m i hm

/-- SESSION_NEW is pending once the blocks take their parts in a NEW decision (R162). -/
theorem State.sessionNew_pending (s : State) : s.sessionNew.mgp.events[EventKind.sessionNew.ix].pending = true := by
  rw [State.sessionNew, Mgp.raise_event]

/-! ### The end of training at the secondary (R110, R160, R162, R163) -/

/-- A session decision takes no time (R162). -/
theorem State.applySession_now (d : Decision) (e : Seq) (s : State) : (s.applySession d e).now = s.now := by
  cases d with
  | newSession =>
    obtain ⟨-, -, hnow, -, -⟩ := s.sessionNew.blocksNew_rest
    exact hnow
  | resume => simp [State.applySession]

/-- A NEW decision leaves an empty journal, E and A at 0, and SESSION_NEW pending (R56, R126, R150, R162). -/
theorem State.applySession_new_parts (e : Seq) (s : State) :
    let w := s.applySession .newSession e
    w.jnl.records = [] ∧ w.jnl.nextSeq = 0 ∧ w.frx.expected = 0 ∧ w.apl.applied = 0 ∧ w.apl.queue = [] ∧
      w.mgp.events[EventKind.sessionNew.ix].pending = true := by
  intro w
  have hpending := s.sessionNew.blocksNew_keeps_pending _ s.sessionNew_pending
  have hw : w = s.sessionNew.blocksNew := s.applySession_newSession e
  rw [hw, State.blocksNew_jnl, State.blocksNew_frx, State.blocksNew_apl]
  exact ⟨rfl, rfl, rfl, rfl, rfl, hpending⟩

/-- A RESUME frees the journal by the peer's E and leaves the other blocks (R57, R162). -/
theorem State.applySession_resume_parts (e : Seq) (s : State) :
    let w := s.applySession .resume e
    w.jnl.nextSeq = s.jnl.nextSeq ∧ w.frx = s.frx ∧ w.apl = s.apl ∧ w.hld = s.hld ∧ w.rgt = s.rgt ∧
      w.swp = s.swp ∧ w.jnl.records = (freeBefore e s.jnl.records).map fun r =>
        { r with sendCount := 0, state := if r.state = .sent then .pending else r.state } := by
  intro w
  have hjnl : w.jnl = { s.jnl with
      records := (freeBefore e s.jnl.records).map Record.resumed, latch := w.jnl.latch } :=
    (State.evalMarks_keeps _).1
  obtain ⟨hfrx, hapl, hhld, hrgt, hswp⟩ : w.frx = s.frx ∧ w.apl = s.apl ∧ w.hld = s.hld ∧ w.rgt = s.rgt ∧
      w.swp = s.swp := by
    simp [w, State.applySession]
  refine ⟨(congrArg Jnl.nextSeq hjnl).trans rfl, hfrx, hapl, hhld, hrgt, hswp, (congrArg Jnl.records hjnl).trans ?_⟩
  exact congrArg (List.map · _) (funext Record.resumed_eq)

/-- In REPLIED a START applies its decision and takes the link UP in GUARD (R160, R162, R163). -/
theorem State.startAtSecondary_taken {s : State} {t : Training} (d : Decision) {e : Seq} (hp : t.phase = .replied)
    (he : t.storedE = some e) :
    let w := s.applySession d e
    s.startAtSecondary t d = { w with
      lnc := { s.lnc with fresh := false, link := .up (Turn.fresh.toGuard s.now s.lnc.params.guard) }
      mgp := w.mgp.raise .linkUp } := by
  intro w
  have htaken : s.startAtSecondary t d = w.goUp (Turn.fresh.toGuard w.now w.lnc.params.guard) := by
    simp only [State.startAtSecondary, hp, he, w]
  rw [htaken, State.goUp, State.setLink, State.raise, s.applySession_now, s.applySession_lnc]

/-- Settles O39: the START is taken in REPLIED, with the parts of its decision, and ignored before. -/
theorem startEndsTraining : Obligations.StartEndsTraining := by
  intro s t h rest d hr hl hbusy hrx htype hgood hd heard
  have hend : exec (.frameEnd rest) s = .next (heard.startAtSecondary t d).settle := by
    rw [exec_frameEnd_training hr hl hbusy hrx, if_pos hgood, State.trainingFrame_start _ htype hd,
      s.lineReturns_apart (State.linkUp_training hl)]
  constructor
  · intro e hp he w v
    refine ⟨?_, ?_, ?_⟩
    · rw [hend, State.startAtSecondary_taken d hp he]
      rfl
    · rintro rfl
      obtain ⟨hrecords, hnext, hexpected, happlied, hqueue, hpending⟩ := heard.applySession_new_parts e
      exact ⟨hrecords, hnext, hexpected, happlied, hqueue, Mgp.raise_keeps_pending .linkUp _ _ hpending⟩
    · rintro rfl
      obtain ⟨hnext, hfrx, hapl, hhld, hrgt, hswp, hrecords⟩ := heard.applySession_resume_parts e
      exact ⟨hnext, (congrArg Frx.expected hfrx).trans rfl, hapl, hhld, hrgt, hswp, hrecords⟩
  · intro hp
    have hphase : t.phase ≠ .replied := by rcases hp with hp | hp <;> simp [hp]
    rw [hend, State.startAtSecondary_ignored d heard hphase]

end Sys2Proof.Machine

namespace Sys2Proof.Machine

/-! ### The session decision (R161) -/

theorem State.sessionDecision_newSession_iff (s : State) (replyFresh : Bool) (b : HelloBody) :
    s.sessionDecision replyFresh b = .newSession ↔
      s.lnc.fresh = true ∨ replyFresh = true ∨ within b.expected s.jnl.oldest s.jnl.nextSeq = false ∨
        within s.frx.expected b.oldest b.nextSeq = false := by
  have hiff : ∀ c : Bool, (if c then Decision.newSession else .resume) = .newSession ↔ c = true := by decide
  rw [State.sessionDecision, hiff]
  simp only [Bool.or_eq_true, Bool.not_eq_true', or_assoc]

/-- There are two decisions (R161). -/
theorem Decision.resume_or_newSession (d : Decision) : d = .resume ∨ d = .newSession := by
  cases d with
  | resume => exact .inl rfl
  | newSession => exact .inr rfl

/-- Settles O37: the four tests of R161 and, where none holds, RESUME. -/
theorem decisionIsNewUnlessBothAgree : Obligations.DecisionIsNewUnlessBothAgree := fun s replyFresh b =>
  ⟨s.sessionDecision_newSession_iff replyFresh b, Decision.resume_or_newSession _⟩

/-! ### The timers of training and DOWN (R156, R159, R160, R163, R164) -/

/-- With a retrain delay a fallen link waits in DOWN (R156). -/
theorem Lnc.fallen_waits {l : Lnc} (now : Nat) (h : 0 < l.params.retrainDelay) :
    l.fallen now = .down ⟨now, l.params.retrainDelay * 1000⟩ :=
  if_neg h.ne'

/-- With a retrain delay of 0 a fallen link goes on to TRAINING (R156). -/
theorem Lnc.fallen_goesOn {l : Lnc} (now : Nat) (h : l.params.retrainDelay = 0) :
    l.fallen now = .training (l.trainingStart now) :=
  if_pos h

theorem State.training_eq {s : State} {t : Training} (hl : s.lnc.link = .training t) : s.training = some t := by
  simp only [State.training, hl]

theorem State.expireRetrain_down {s : State} {d : Timer} (hl : s.lnc.link = .down d) :
    s.expireRetrain = some (s.reach d.due).enterTraining := by
  simp only [State.expireRetrain, hl]

theorem State.expireHello_calling {s : State} {t : Training} {d : Timer} (hl : s.lnc.link = .training t)
    (hp : t.phase = .calling) (hd : t.hello = some d) :
    s.expireHello = some ((s.reach d.due).setLink (.training { t with hello := none, want := some .hello })) := by
  simp only [State.expireHello, State.training_eq hl, hp, hd]

/-- The guard of a phase asks for the frame of that phase (R160, R163). -/
theorem State.expireTrainingGuard_due {s : State} {t : Training} {phase : Phase} {g : GuardTimer} (want : TrainFrame)
    (hl : s.lnc.link = .training t) (hp : t.phase = phase) (hg : t.guard = some g) :
    s.expireTrainingGuard phase want =
      some ((s.reach g.due).setLink (.training { t with guard := none, want := some want })) := by
  simp only [State.expireTrainingGuard, State.training_eq hl, hg, hp, if_true]

theorem State.expireTraining_limit {s : State} {t : Training} (hl : s.lnc.link = .training t) :
    s.expireTraining = some ((s.reach t.limit.due).goDown .trainTimeout) := by
  simp only [State.expireTraining, State.training_eq hl]

/-- Settles O41: where an entry to DOWN leads, and each timer by the state in which it runs. -/
theorem trainingTimersExpire : Obligations.TrainingTimersExpire := by
  refine ⟨fun l now => ⟨Lnc.fallen_waits now, fun h => ?_⟩, fun s d hr hl => ?_, fun s t hr hl =>
    ⟨fun d hp hd => ?_, fun g hp hg => ?_, fun g hp hg => ?_, ?_⟩⟩
  · rw [Lnc.fallen_goesOn now h, Lnc.trainingStart_eq]
  · refine congrArg Host.Outcome.next ((State.event_some _ s _ hr (State.expireRetrain_down hl)).trans ?_)
    rw [State.enterTraining, Lnc.trainingStart_eq]
    rfl
  · exact congrArg Host.Outcome.next (State.event_some _ s _ hr (State.expireHello_calling hl hp hd))
  · exact congrArg Host.Outcome.next (State.event_some _ s _ hr (State.expireTrainingGuard_due .reply hl hp hg))
  · exact congrArg Host.Outcome.next (State.event_some _ s _ hr (State.expireTrainingGuard_due .start hl hp hg))
  · refine congrArg Host.Outcome.next ((State.event_some _ s _ hr (State.expireTraining_limit hl)).trans ?_)
    rw [State.goDown_joined .trainTimeout (s.reach t.limit.due) (congrArg Link.joined hl)]
    rfl

/-! ### A good HELLO in TRAINING (R156, R158 to R163) -/

/-- A RESUME leaves the downstream port (R162). -/
theorem State.applySession_resume_dnp (e : Seq) (s : State) : (s.applySession .resume e).dnp = s.dnp := by
  simp [State.applySession]

/-- The primary takes a secondary's REPLY in CALLING: its decision reaches every block, and LNC waits in STARTING,
unconfirmed (R159, R161 to R163). -/
theorem State.helloAtPrimary_taken {t : Training} {h : Header} {b : HelloBody} (s : State) (hp : t.phase = .calling)
    (hreply : h.reply = true) (hrole : b.role = .secondary) :
    let d := s.sessionDecision h.fresh b
    s.helloAtPrimary t h b = { (s.recordWindow b.window).applySession d b.expected with
      lnc := { (s.recordWindow b.window).lnc with
        fresh := false
        unconfirmed := true
        link := .training { t with
          phase := .starting
          guard := some ⟨s.now, s.lnc.params.guard⟩
          hello := none
          decision := some d
          want := none } } } := by
  intro d
  have htaken : s.helloAtPrimary t h b = s.takeReply t h.fresh b := by
    simp only [State.helloAtPrimary, hreply, hrole, hp, if_true]
  rw [htaken, State.takeReply, State.setLink, State.applySession_lnc]

/-- Two primaries: the link goes DOWN (R159). -/
theorem State.helloAtPrimary_conflict {h : Header} {b : HelloBody} (t : Training) (s : State) (hreply : h.reply = false)
    (hrole : b.role = .primary) : s.helloAtPrimary t h b = (s.recordWindow b.window).goDown .roleConflict := by
  simp only [State.helloAtPrimary, hreply, hrole]

/-- The secondary stores the HELLO of a primary (R160). -/
theorem State.helloAtSecondary_stored {h : Header} {b : HelloBody} (t : Training) (s : State) (hreply : h.reply = false)
    (hrole : b.role = .primary) : s.helloAtSecondary t h b = s.storeHello t b := by
  simp only [State.helloAtSecondary, hreply, hrole]

/-- Settles O38: the REPLY taken with the parts of its decision, the conflict of two primaries, the HELLO stored. -/
theorem helloEndsInTraining : Obligations.HelloEndsInTraining := by
  intro s t h rest b hr hl hbusy hrx htype hgood hb heard
  have hreturns := s.lineReturns_apart (State.linkUp_training hl)
  have hend : exec (.frameEnd rest) s = .next (s.lineReturns.trainingFrame t h rest).settle := by
    rw [exec_frameEnd_training hr hl hbusy hrx, if_pos hgood]
  refine ⟨fun hp hreply hrole => ?_, fun hp hreply hrole => ?_, fun hp hreply hrole => ?_⟩
  · intro d v
    refine ⟨?_, fun hd => ?_, fun hd => ?_⟩
    · rw [hend, State.trainingFrame_helloAtPrimary _ htype hb (.inl hp), State.helloAtPrimary_taken _ hp hreply hrole,
        hreturns]
      rfl
    · obtain ⟨hrecords, hnext, hexpected, happlied, hqueue, -⟩ := heard.applySession_new_parts b.expected
      rw [← hd] at hrecords hnext hexpected happlied hqueue
      exact ⟨hrecords, hnext, hexpected, happlied, hqueue⟩
    · have hdnp := heard.applySession_resume_dnp b.expected
      obtain ⟨hnext, hfrx, hapl, hhld, hrgt, hswp, hrecords⟩ := heard.applySession_resume_parts b.expected
      rw [← hd] at hdnp hnext hfrx hapl hhld hrgt hswp hrecords
      exact ⟨hrecords, hnext, (congrArg Frx.expected hfrx).trans rfl, hapl, hhld, hrgt, hswp, hdnp⟩
  · rw [hend, State.trainingFrame_helloAtPrimary _ htype hb hp, State.helloAtPrimary_conflict t _ hreply hrole,
      hreturns]
    exact congrArg (fun u : State => Host.Outcome.next u.settle)
      (State.goDown_joined .roleConflict heard (congrArg Link.joined hl))
  · rw [hend, State.trainingFrame_helloAtSecondary _ htype hb hp, State.helloAtSecondary_stored t _ hreply hrole,
      hreturns]
    rfl

end Sys2Proof.Machine

namespace Sys2Proof.Machine

/-! ### MG_MISO and the requests (R167 to R169) -/

/-- What MG_MISO carried in a transaction stands as it was. -/
def State.MisoKept (s t : State) : Prop := t.mgp.miso = s.mgp.miso ∧ t.mgp.misoTail = s.mgp.misoTail

theorem State.MisoKept.of_mgp {s t : State} (h : t.mgp = s.mgp) : s.MisoKept t := by
  rw [State.MisoKept, h]
  exact ⟨rfl, rfl⟩

theorem State.MisoKept.trans {s t u : State} (h : s.MisoKept t) (h' : t.MisoKept u) : s.MisoKept u :=
  ⟨h'.1.trans h.1, h'.2.trans h.2⟩

theorem State.answer_misoKept (st : Status) (p : List Byte) (s : State) : s.MisoKept (s.answer st p) := ⟨rfl, rfl⟩

theorem State.stallCheck_misoKept (s : State) : s.MisoKept s.stallCheck := by
  unfold State.stallCheck
  split
  · exact .of_mgp rfl
  · split
    · exact .of_mgp rfl
    · split
      · unfold State.stallActions State.diverge
        split <;> exact ⟨rfl, rfl⟩
      · exact .of_mgp rfl

theorem finishRun_misoKept (n : Nat) (s : State) : s.MisoKept (finishRun n s) := by
  induction n generalizing s with
  | zero => exact .of_mgp rfl
  | succ n ih =>
    have hfinish : s.MisoKept s.finishAtIssue := by
      unfold State.finishAtIssue
      split <;> exact ⟨rfl, rfl⟩
    exact hfinish.trans (ih _)

/-- The reactions raise and count, and shift nothing out. -/
theorem State.settle_misoKept (s : State) : s.MisoKept s.settle := by
  have hstall : s.MisoKept s.acceptPresented.stallCheck := s.acceptPresented.stallCheck_misoKept
  have hrun : s.acceptPresented.stallCheck.MisoKept s.acceptPresented.stallCheck.applyRun := finishRun_misoKept _ _
  exact (hstall.trans hrun).trans (.of_mgp (by simp [State.settle]))

/-- A request whose length is right comes to the state of its verdict, with MG_MISO as the transaction shifted it out
(R168, R169). -/
theorem State.transaction_verdict {t : Transaction} {s : State} {len : Nat} {p : List Byte}
    (run : List Byte → State → Verdict) (hr : s.inReset = false) (hf : t.fell = true)
    (hp : payloadOf len t.bytes = some p) : s.transaction t len run =
      (run p (s.shiftOut (t.bytes.length + 1) t.tail.length)).state (s.shiftOut (t.bytes.length + 1) t.tail.length) :=
  s.transaction_runs t len run p hr hf hp

theorem Verdict.state_misoKept {u : State} {v : Verdict} (h : v.Leads u.MisoKept) : u.MisoKept (v.state u) := by
  cases v with
  | refused st => exact u.answer_misoKept _ _
  | answered q w => exact State.MisoKept.trans h (w.answer_misoKept _ _)
  | acted w => exact State.MisoKept.trans h ((w.answer_misoKept _ _).trans (State.settle_misoKept _))

/-- A transaction leaves on MG_MISO what it shifted out, when its request does. -/
theorem State.transaction_misoKept {t : Transaction} {s : State} {len : Nat} {run : List Byte → State → Verdict}
    (hr : s.inReset = false) (hf : t.fell = true) (hrun : ∀ p u, (run p u).Leads u.MisoKept) :
    (s.shiftOut (t.bytes.length + 1) t.tail.length).MisoKept (s.transaction t len run) := by
  cases hp : payloadOf len t.bytes with
  | none => exact s.transaction_badLength t len run hr hf hp ▸ State.answer_misoKept _ _ _
  | some p =>
    rw [State.transaction_verdict run hr hf hp]
    exact Verdict.state_misoKept (hrun p _)

/-- A payload whose length byte is missing, or differs from the fixed length or from the bytes received (R169). -/
theorem payloadOf_none {len : Nat} {bytes : List Byte}
    (h : ∀ l payload, bytes = l :: payload → l.toNat ≠ len ∨ payload.length ≠ len) : payloadOf len bytes = none := by
  cases bytes with
  | nil => rfl
  | cons l payload => exact if_neg (not_and_or.2 (h l payload rfl))

/-! ### What the requests leave on MG_MISO (R168) -/

theorem withRegion_misoKept {s : State} (p : List Byte) {f : RegionIx → Verdict}
    (h : ∀ r, (f r).Leads fun v => v.mgp = s.mgp) : (withRegion p f).Leads s.MisoKept := by
  unfold withRegion
  split
  · trivial
  · next r _ =>
    have hr := h r
    cases hv : f r with
    | refused st => trivial
    | answered q v => rw [hv] at hr; exact .of_mgp hr
    | acted v => rw [hv] at hr; exact .of_mgp hr

theorem State.regionSet_misoKept (p : List Byte) (s : State) : (s.regionSet p).Leads s.MisoKept := by
  refine withRegion_misoKept p fun r => ?_
  split
  · trivial
  · split
    · trivial
    · split
      · exact s.setRegion_mgp r _
      · trivial

theorem State.regionEnable_misoKept (p : List Byte) (s : State) : (s.regionEnable p).Leads s.MisoKept := by
  refine withRegion_misoKept p fun r => ?_
  split
  · trivial
  · split
    · trivial
    · have henabled : (s.enableRegion r).mgp = s.mgp := by
        unfold State.enableRegion
        split
        · simp
        · dsimp only
          split <;> simp
      exact henabled

theorem State.regionDisable_misoKept (p : List Byte) (s : State) : (s.regionDisable p).Leads s.MisoKept := by
  refine withRegion_misoKept p fun r => ?_
  split
  · rfl
  · exact (State.dropSweep_mgp _ _).trans (s.setRegionState_mgp r _)

theorem State.regionResync_misoKept (p : List Byte) (s : State) : (s.regionResync p).Leads s.MisoKept := by
  refine withRegion_misoKept p fun r => ?_
  split
  · exact s.toResyncing_mgp r
  · trivial

theorem State.regionMode_misoKept (p : List Byte) (s : State) : (s.regionMode p).Leads s.MisoKept := by
  refine withRegion_misoKept p fun r => ?_
  split
  · split
    · trivial
    · exact s.setMode_mgp r _
  · trivial

theorem State.linkSet_misoKept (p : List Byte) (s : State) : (s.linkSet p).Leads s.MisoKept := by
  unfold State.linkSet
  split
  · split
    · trivial
    · split
      · exact .of_mgp rfl
      · trivial
  · trivial

theorem State.linkEnable_misoKept (s : State) : s.linkEnable.Leads s.MisoKept := by
  unfold State.linkEnable
  split
  · exact .of_mgp s.enterTraining_mgp
  · trivial

theorem State.goDisabled_misoKept (s : State) : s.MisoKept s.goDisabled := by
  by_cases hl : s.lnc.link = .disabled
  · exact .of_mgp (by simp only [State.goDisabled, hl])
  · rw [State.goDisabled_eq hl, State.MisoKept]
    cases s.linkUp <;> exact ⟨rfl, rfl⟩

theorem State.linkRenew_misoKept (s : State) : s.MisoKept s.linkRenew := by
  cases hj : s.lnc.link.joined with
  | false => exact .of_mgp (by rw [State.linkRenew_apart hj])
  | true =>
    rw [State.linkRenew_joined hj]
    exact ⟨rfl, rfl⟩

theorem State.journalSet_misoKept (p : List Byte) (s : State) : (s.journalSet p).Leads s.MisoKept := by
  unfold State.journalSet
  dsimp only
  split
  · obtain ⟨-, -, -, -, -, hmiso, htail⟩ := State.evalMarks_keeps { s with jnl := { s.jnl with
      highMark := field p 0 1, lowMark := field p 1 1, reserveDesc := field p 2 2, reserveBytes := field p 4 4 } }
    exact ⟨hmiso, htail⟩
  · trivial

theorem State.zeroCounter_misoKept (c : CounterId) (s : State) : s.MisoKept (s.zeroCounter c) := by
  cases c with
  | device k => exact ⟨rfl, rfl⟩
  | captured r => exact .of_mgp (s.setRegion_mgp r _)
  | stray r => exact .of_mgp (s.setRegion_mgp r _)
  | applied r => exact .of_mgp (s.setRegion_mgp r _)

/-- A command of the port is the transaction of a request with a fixed payload length, which leaves MG_MISO as it was
shifted out. -/
def CarriesRequest (r : (Transaction → Instr) × Nat) : Prop :=
  ∃ run : List Byte → State → Verdict, (∀ t s, exec (r.1 t) s = .next (s.transaction t r.2 run)) ∧
    ∀ p u, (run p u).Leads u.MisoKept

/-- The 20 requests with their fixed payload lengths (12.2). -/
def portRequests : List ((Transaction → Instr) × Nat) :=
  [(.nop, 0), (.portIdent, 0), (.regionSet, 21), (.regionEnable, 1), (.regionDisable, 1), (.regionResync, 1),
    (.regionMode, 2), (.regionQuery, 1), (.linkSet, 18), (.linkEnable, 0), (.linkDisable, 0), (.linkRenew, 0),
    (.linkQuery, 0), (.journalSet, 8), (.journalQuery, 0), (.eventQuery, 0), (.eventAck, 2), (.eventEnable, 2),
    (.counterQuery, 1), (.counterZero, 1)]

/-- Each of the 20 requests is a transaction of its length. -/
theorem portRequests_carry : ∀ r ∈ portRequests, CarriesRequest r := by
  have hreport : ∀ (q : List Byte) (u : State), (Verdict.answered q u).Leads u.MisoKept := fun _ _ => .of_mgp rfl
  simp only [portRequests, List.forall_mem_cons, List.not_mem_nil, false_imp_iff, implies_true, and_true]
  refine ⟨⟨_, fun _ _ => rfl, fun _ u => hreport _ u⟩, ⟨_, fun _ _ => rfl, fun _ u => hreport _ u⟩,
    ⟨_, fun _ _ => rfl, State.regionSet_misoKept⟩, ⟨_, fun _ _ => rfl, State.regionEnable_misoKept⟩,
    ⟨_, fun _ _ => rfl, State.regionDisable_misoKept⟩, ⟨_, fun _ _ => rfl, State.regionResync_misoKept⟩,
    ⟨_, fun _ _ => rfl, State.regionMode_misoKept⟩, ⟨_, fun _ _ => rfl, fun p _ => withRegion_misoKept p fun _ => rfl⟩,
    ⟨_, fun _ _ => rfl, State.linkSet_misoKept⟩, ⟨_, fun _ _ => rfl, fun _ => State.linkEnable_misoKept⟩,
    ⟨_, fun _ _ => rfl, fun _ => State.goDisabled_misoKept⟩, ⟨_, fun _ _ => rfl, fun _ => State.linkRenew_misoKept⟩,
    ⟨_, fun _ _ => rfl, fun _ u => hreport _ u⟩, ⟨_, fun _ _ => rfl, State.journalSet_misoKept⟩,
    ⟨_, fun _ _ => rfl, fun _ u => hreport _ u⟩, ⟨_, fun _ _ => rfl, fun _ u => hreport _ u⟩,
    ⟨_, fun _ _ => rfl, fun _ _ => ⟨rfl, rfl⟩⟩, ⟨_, fun _ _ => rfl, fun _ _ => ⟨rfl, rfl⟩⟩,
    ⟨_, fun _ _ => rfl, fun p u => ?_⟩, ⟨_, fun _ _ => rfl, fun p u => ?_⟩⟩
  · split
    · trivial
    · exact hreport _ u
  · split
    · exact ⟨rfl, rfl⟩
    · split
      · trivial
      · exact u.zeroCounter_misoKept _

/-! ### A transaction that names no request (R167, R169) -/

/-- A transaction without a complete byte leaves the response buffer (R167). -/
theorem exec_undefinedRequest_nil {t : Transaction} {s : State} (hr : s.inReset = false) (hf : t.fell = true)
    (ht : t.bytes = []) : exec (.undefinedRequest t) s = .next (s.shiftOut 0 t.tail.length) := by
  change execUndefinedRequest t s = _
  simp only [execUndefinedRequest, hr, hf, ht]
  rfl

/-- An undefined code is answered BAD_CODE (R169). -/
theorem exec_undefinedRequest_cons {t : Transaction} {s : State} {c : Byte} {rest : List Byte}
    (hr : s.inReset = false) (hf : t.fell = true) (ht : t.bytes = c :: rest) (hc : c ∉ requestCodes) :
    exec (.undefinedRequest t) s = .next ((s.shiftOut t.bytes.length t.tail.length).answer .badCode []) := by
  have hcode : requestCodes.contains c = false := by simpa using hc
  change execUndefinedRequest t s = _
  simp only [execUndefinedRequest, hr, hf, ht, hcode]
  rfl

/-- Settles O43: the 20 requests are transactions of their lengths, whose changes leave MG_MISO alone. -/
theorem transactionsShiftOutAndAreChecked : Obligations.TransactionsShiftOutAndAreChecked := by
  refine ⟨fun n k s => rfl, fun request len hmem t s hr => ?_, fun t s hr hf =>
    ⟨fun ht => exec_undefinedRequest_nil hr hf ht, fun c rest ht hc => exec_undefinedRequest_cons hr hf ht hc⟩⟩
  obtain ⟨run, hexec, hrun⟩ := portRequests_carry (request, len) hmem
  refine ⟨fun hf => ?_, fun hf hlen => ?_, fun hf => ⟨_, hexec t s, State.transaction_misoKept hr hf hrun⟩⟩
  · rw [hexec, s.transaction_idle t len run hf]
  · rw [hexec, s.transaction_badLength t len run hr hf (payloadOf_none hlen)]
    rfl

end Sys2Proof.Machine

namespace Sys2Proof.Machine

/-! ### NOP and PORT.IDENT (R170) -/

/-- Settles O44: both answer a transaction of the right length with a fixed payload. -/
theorem nopAndPortIdentAnswer : Obligations.NopAndPortIdentAnswer := by
  intro t s hr hf ht u
  have hexec : ∀ run : List Byte → State → Verdict, s.transaction t 0 run = (run [] u).state u :=
    fun run => State.transaction_state run hr hf ht rfl rfl
  exact ⟨congrArg Host.Outcome.next (hexec fun _ s => .answered [] s),
    congrArg Host.Outcome.next (hexec fun _ s => .answered identity s)⟩

/-! ### REGION.QUERY (R172) -/

/-- A number below 256 is the last of its bytes (12_formats). -/
theorem beBytes_of_lt_256 {n : Nat} (k : Nat) (h : n < 256) :
    beBytes (k + 1) n = List.replicate k 0 ++ [BitVec.ofNat 8 n] := by
  have hzero : ∀ k, beBytes k 0 = List.replicate k 0 := by
    intro k
    induction k with
    | zero => rfl
    | succ k ih =>
      rw [beBytes, Nat.zero_div, ih, List.replicate_succ']
      rfl
  rw [beBytes, Nat.div_eq_of_lt h, hzero]

/-- The sweep kind and value take six bytes (12.2). -/
theorem State.sweepReport_length (s : State) (r : RegionIx) : (s.sweepReport r).length = 6 := by
  unfold State.sweepReport
  split
  · rfl
  · split
    · split <;> rfl
    · split <;> rfl
    · rfl

/-- A queued region reports its place in the resync queue (R172). -/
theorem State.sweepReport_queued {s : State} {r : RegionIx} (h : r ∈ s.swp.queue) (hlen : s.swp.queue.length < 256) :
    s.sweepReport r = [1, 0, 0, 0, 0, BitVec.ofNat 8 (s.swp.queue.idxOf r)] := by
  have hix : s.swp.queue.idxOf r < 256 := (List.idxOf_lt_length_of_mem h).trans hlen
  rw [State.sweepReport, if_pos h, beBytes_of_lt_256 4 hix]
  rfl

/-- A region in READING reports the next chunk, where 40 bits hold it (R172). -/
theorem State.sweepReport_reading {s : State} {r : RegionIx} {c : SweepCtx} (h : r ∉ s.swp.queue)
    (he : s.swp.engine = .reading c) (hc : c.region = r) (hlt : c.nextChunk < 2 ^ 40) :
    s.sweepReport r = 2 :: beBytes 5 c.nextChunk := by
  have hreported : (c.reported (s.region r).fields).toNat = c.nextChunk := by
    rw [SweepCtx.reported, if_pos hlt, BitVec.toNat_ofNat, Nat.mod_eq_of_lt hlt]
  simp only [State.sweepReport, h, he, hc, ↓reduceIte, hreported]
  rfl

/-- A region in DRAINING reports its last seq (R172). -/
theorem State.sweepReport_draining {s : State} {r : RegionIx} {c : SweepCtx} {q : Seq} (h : r ∉ s.swp.queue)
    (he : s.swp.engine = .draining c) (hc : c.region = r) (hq : c.lastSeq = some q) :
    s.sweepReport r = [3, 0] ++ beBytes 4 q.toNat := by
  simp only [State.sweepReport, h, he, hc, hq, ↓reduceIte]
  rfl

/-- A region neither queued nor in the engine reports no sweep (R172). -/
theorem State.sweepReport_none {s : State} {r : RegionIx} (h : r ∉ s.swp.queue)
    (he : ∀ c, s.swp.engine.ctx? = some c → c.region ≠ r) : s.sweepReport r = [0, 0, 0, 0, 0, 0] := by
  rw [State.sweepReport, if_neg h]
  cases hs : s.swp.engine with
  | idle => rfl
  | reading c => exact if_neg (he c (by rw [hs]; rfl))
  | draining c => exact if_neg (he c (by rw [hs]; rfl))

theorem State.regionReport_eq {s : State} {r : RegionIx} {b : Byte} (h : b.toNat = r.val) : s.regionReport r =
    [b] ++ encodeFields (s.region r).fields ++ [(s.region r).state.code] ++ s.sweepReport r := by
  have hb : beBytes 1 r.val = [b] := by
    rw [← h, beBytes_of_lt_256 0 b.isLt, BitVec.ofNat_toNat, BitVec.setWidth_eq]
    rfl
  rw [State.regionReport, hb]

/-! ### LINK.QUERY and JOURNAL.QUERY (R174, R175) -/

/-- Two flags at the top of a byte (12_formats). -/
theorem flagByte_pair (a b : Bool) : flagByte [a, b] = BitVec.ofNat 8 (128 * a.toNat + 64 * b.toNat) := by
  cases a <;> cases b <;> rfl

/-- The byte of one flag (12.2). -/
theorem ofNat_toNat_bool (b : Bool) : (BitVec.ofNat 8 b.toNat : Byte) = if b then 1 else 0 := by
  cases b <;> rfl

/-- Training phase, turn sub-state and the two counts, where the link state has them (R174). -/
theorem Link.report_eq (l : Link) : l.report =
    match l with
    | .training c => [c.phase.code, 0, 0, 0]
    | .up v => [0, v.sub.code, BitVec.ofNat 8 v.missed, BitVec.ofNat 8 v.collisions]
    | _ => [0, 0, 0, 0] := by
  cases l <;> rfl

/-- LINK.QUERY's payload, item by item (R174, 12.2). -/
theorem State.linkReport_eq (s : State) : s.linkReport =
    [s.lnc.link.code, causeCode s.lnc.lastCause,
        BitVec.ofNat 8 (128 * s.lnc.fresh.toNat + 64 * s.lnc.unconfirmed.toNat)] ++
      s.lnc.link.report ++ encodeParams s.lnc.params ++ beBytes 2 (s.lnc.peerWindow.getD 0) ++
      [nakCode s.ftx.pendingNak] ++ beBytes 4 s.frx.expected.toNat ++ [nakCode s.frx.lastNak] ++
      beBytes 4 s.apl.applied.toNat ++ beBytes 2 s.apl.queue.length ++
      beBytes 4 (s.apl.queue.map fun r => ceil16 r.length).sum ++ beBytes 1 s.apl.inFlight.length ++
      beBytes 1 (s.apl.inFlight.countP fun e => e.orphaned) := by
  rw [State.linkReport, flagByte_pair]
  rfl

/-- JOURNAL.QUERY's payload, item by item (R175, 12.2). -/
theorem Jnl.report_eq (j : Jnl) : j.report =
    beBytes 1 (max (100 * j.records.length / 2048) (100 * j.bytes / 131072)) ++
      beBytes 2 j.records.length ++ beBytes 4 j.bytes ++ beBytes 4 j.oldest.toNat ++
      beBytes 4 j.sendPoint.toNat ++ beBytes 4 j.nextSeq.toNat ++
      beBytes 2 (j.records.countP fun r => decide (r.state = .sent)) ++
      beBytes 2 (j.records.countP fun r => decide (r.state = .pending)) ++
      beBytes 2 (j.records.countP fun r => decide (r.state = .filling)) ++
      [if j.latch then 1 else 0] ++ beBytes 1 j.highMark ++ beBytes 1 j.lowMark ++
      beBytes 2 j.reserveDesc ++ beBytes 4 j.reserveBytes := by
  rw [Jnl.report, ofNat_toNat_bool]
  rfl

/-- Settles O50: REGION.QUERY by where the region stands in the sweep, the other two item by item. -/
theorem queriesReportTheState : Obligations.QueriesReportTheState := by
  intro t s hr hf answered
  let u := s.shiftOut (t.bytes.length + 1) t.tail.length
  have hexec : ∀ {len : Nat} {l : Byte} {p : List Byte} (run : List Byte → State → Verdict), t.bytes = l :: p →
      l.toNat = len → p.length = len → s.transaction t len run = (run p u).state u := fun run ht hl hp =>
    State.transaction_verdict run hr hf (by rw [ht]; exact payloadOf_eq _ _ _ hl hp)
  have hregion : ∀ b : Byte, t.bytes = [1, b] →
      exec (.regionQuery t) s = .next ((withRegion [b] fun r => .answered (u.regionReport r) u).state u) := fun b ht =>
    congrArg Host.Outcome.next
      (hexec (fun p s => withRegion p fun r => .answered (s.regionReport r) s) ht rfl rfl)
  have hlink : t.bytes = [0] → exec (.linkQuery t) s = .next (u.answer .ok u.linkReport) := fun ht =>
    congrArg Host.Outcome.next (hexec (fun _ s => .answered s.linkReport s) ht rfl rfl)
  have hjournal : t.bytes = [0] → exec (.journalQuery t) s = .next (u.answer .ok u.jnl.report) := fun ht =>
    congrArg Host.Outcome.next (hexec (fun _ s => .answered s.jnl.report s) ht rfl rfl)
  refine ⟨fun b ht hb => ?_, fun b r ht hb => ⟨s.sweepReport r, ?_, s.sweepReport_length r, fun hq => ?_,
    fun hq c he hc hlt => State.sweepReport_reading hq he hc hlt,
    fun hq c q he hc hlast => State.sweepReport_draining hq he hc hlast,
    fun hq he => State.sweepReport_none hq he⟩, fun ht => ⟨?_, ?_⟩⟩
  · rw [hregion b ht, withRegion_none hb]
    rfl
  · rw [hregion b ht, withRegion_some hb, State.regionReport_eq hb]
    rfl
  · exact (lt_or_ge s.swp.queue.length 256).imp (State.sweepReport_queued hq) id
  · rw [hlink ht, State.linkReport_eq, Link.report_eq]
    rfl
  · rw [hjournal ht, Jnl.report_eq]
    rfl

/-! ### Counters (R17, R179, R180) -/

/-- The id of a counter (12.2). -/
def CounterId.code : CounterId → Nat
  | .device k => k.val
  | .captured r => 0x10 + r.val
  | .stray r => 0x20 + r.val
  | .applied r => 0x30 + r.val

theorem CounterId.code_lt (c : CounterId) : c.code < 0x40 := by
  cases c <;> simp only [CounterId.code] <;> omega

/-- An id of two hexadecimal digits is taken apart into its group and its place there (12.2). -/
theorem counterId_digits {n g : Nat} {k : Fin 16} (h : n = 16 * g + k.val) :
    n / 16 = g ∧ (⟨n % 16, Nat.mod_lt _ (by decide)⟩ : Fin 16) = k :=
  ⟨by omega, Fin.ext (by simp only; omega)⟩

/-- A counter's id names that counter (12.2). -/
theorem counterOf_code {b : Byte} {c : CounterId} (h : b.toNat = c.code) : counterOf b = some c := by
  cases c with
  | device k =>
    obtain ⟨hg, hk⟩ := counterId_digits (g := 0) (k := k) (by simpa [CounterId.code] using h)
    simp only [counterOf, hg, hk]
  | captured r =>
    obtain ⟨hg, hk⟩ := counterId_digits (g := 1) (k := r) h
    simp only [counterOf, hg, hk]
  | stray r =>
    obtain ⟨hg, hk⟩ := counterId_digits (g := 2) (k := r) h
    simp only [counterOf, hg, hk]
  | applied r =>
    obtain ⟨hg, hk⟩ := counterId_digits (g := 3) (k := r) h
    simp only [counterOf, hg, hk]

/-- An id from 0x40 on names no counter (R180). -/
theorem counterOf_none {b : Byte} (h : 0x40 ≤ b.toNat) : counterOf b = none := by
  obtain ⟨n, hn⟩ : ∃ n, b.toNat / 16 = n + 4 := ⟨b.toNat / 16 - 4, by omega⟩
  simp only [counterOf, hn]

section counterRequests

variable {t : Transaction} {s : State} {id : Byte} (hr : s.inReset = false) (hf : t.fell = true)
  (ht : t.bytes = [1, id])

include hr hf ht

theorem exec_counterQuery_some {c : CounterId} (hc : counterOf id = some c) : exec (.counterQuery t) s =
    .next ((s.shiftOut 3 t.tail.length).answer .ok (id :: beBytes 4 (s.counter c).toNat)) := by
  refine (congrArg Host.Outcome.next (State.transaction_state _ hr hf ht rfl rfl)).trans ?_
  rw [List.getD_cons_zero, hc]
  rfl

theorem exec_counterQuery_none (hc : counterOf id = none) :
    exec (.counterQuery t) s = .next ((s.shiftOut 3 t.tail.length).answer .badIndex []) := by
  refine (congrArg Host.Outcome.next (State.transaction_state _ hr hf ht rfl rfl)).trans ?_
  rw [List.getD_cons_zero, hc]
  rfl

theorem exec_counterZero_all (hall : id = 0xFF) :
    exec (.counterZero t) s = .next ((s.shiftOut 3 t.tail.length).zeroAll.answer .ok []) := by
  refine (congrArg Host.Outcome.next (State.transaction_state _ hr hf ht rfl rfl)).trans ?_
  rw [List.getD_cons_zero, if_pos hall]
  rfl

theorem exec_counterZero_some {c : CounterId} (hall : id ≠ 0xFF) (hc : counterOf id = some c) :
    exec (.counterZero t) s = .next (((s.shiftOut 3 t.tail.length).zeroCounter c).answer .ok []) := by
  refine (congrArg Host.Outcome.next (State.transaction_state _ hr hf ht rfl rfl)).trans ?_
  rw [List.getD_cons_zero, if_neg hall, hc]
  rfl

theorem exec_counterZero_none (hall : id ≠ 0xFF) (hc : counterOf id = none) :
    exec (.counterZero t) s = .next ((s.shiftOut 3 t.tail.length).answer .badIndex []) := by
  refine (congrArg Host.Outcome.next (State.transaction_state _ hr hf ht rfl rfl)).trans ?_
  rw [List.getD_cons_zero, if_neg hall, hc]
  rfl

end counterRequests

/-- Settles O52: the counter an id names, read and zeroed; no counter from 0x40 on, and ALL for COUNTER.ZERO. -/
theorem countersAreReadAndZeroed : Obligations.CountersAreReadAndZeroed := by
  intro t s id hr hf ht u ok value zeroed
  have hvalue : ∀ c : CounterId, id.toNat = c.code → value (s.counter c) := fun c hid =>
    exec_counterQuery_some hr hf ht (counterOf_code hid)
  have hzeroed : ∀ c : CounterId, id.toNat = c.code →
      exec (.counterZero t) s = .next ((u.zeroCounter c).answer .ok []) := fun c hid =>
    have hall : id ≠ 0xFF := by
      rintro rfl
      exact absurd (hid ▸ c.code_lt) (by decide)
    exec_counterZero_some hr hf ht hall (counterOf_code hid)
  refine ⟨fun k hid => ⟨hvalue (.device k) hid, hzeroed (.device k) hid⟩, fun r => ⟨fun hid => ?_, fun hid => ?_,
    fun hid => ?_⟩, fun hid => ⟨?_, fun hall => ?_⟩, fun hall => exec_counterZero_all hr hf ht hall⟩
  · exact ⟨hvalue (.captured r) hid, hzeroed (.captured r) hid⟩
  · exact ⟨hvalue (.stray r) hid, hzeroed (.stray r) hid⟩
  · exact ⟨hvalue (.applied r) hid, hzeroed (.applied r) hid⟩
  · exact exec_counterQuery_none hr hf ht (counterOf_none hid)
  · exact exec_counterZero_none hr hf ht hall (counterOf_none hid)

end Sys2Proof.Machine

namespace Sys2Proof.Machine

/-! ### One step -/

/-- The timebase counts the microsecond unless RESET holds the part (00_scope, Time). -/
theorem State.tick_eq (s : State) : s.tick = { s with now := if s.inReset then s.now else s.now + 1 } := by
  unfold State.tick
  split <;> rfl

theorem step_queued (c : Instr) (s : State) : step { s with pending := c :: s.pending } = exec c s := rfl

theorem step_empty {s : State} (h : s.pending = []) : step s = .next s.tick := by
  rw [step, h]

/-- Settles O1: the two branches of `step`, the command at the front and the tick. -/
theorem stepRunsTheFrontCommandOrTicks : Obligations.StepRunsTheFrontCommandOrTicks :=
  ⟨step_queued, fun s h => (step_empty h).trans (by rw [s.tick_eq])⟩

end Sys2Proof.Machine

namespace Sys2Proof.Machine

/-! ### The queue under events and transactions (R167) -/

@[simp] theorem State.settle_pending (s : State) : s.settle.pending = s.pending := by simp [State.settle]

/-- An event leaves the queue alone when its effect does, wherever it can happen. -/
theorem State.event_pending {f : State → Option State} {s : State}
    (hf : ∀ t, f s = some t → t.pending = s.pending) : (s.event f).pending = s.pending := by
  unfold State.event
  split
  · rfl
  · cases hft : f s with
    | none => rfl
    | some t => exact t.settle_pending.trans (hf t hft)

/-- An event whose effect leaves the queue alone answers a next state with the queue as it was. -/
theorem event_answers {f : State → Option State} {s : State} (hf : ∀ t, f s = some t → t.pending = s.pending) :
    ∃ t, (.next (s.event f) : Host.Outcome State Fault Refusal) = .next t ∧ t.pending = s.pending :=
  ⟨_, rfl, State.event_pending hf⟩

/-- A transaction leaves the queue alone when its request does. -/
theorem State.transaction_pending (t : Transaction) (len : Nat) (run : List Byte → State → Verdict) (s : State)
    (hrun : ∀ p u, (run p u).Leads fun v => v.pending = u.pending) :
    (s.transaction t len run).pending = s.pending := by
  refine State.transaction_leads (fun u => u.pending = s.pending) (fun _ _ _ hu => hu) (fun _ _ _ hu => hu)
    (fun u hu => u.settle_pending.trans hu) t len run (fun p u hu => ?_) s rfl
  exact hu ▸ hrun p u

/-- A request that leaves the queue alone answers a next state with the queue as it was. -/
theorem transaction_answers {t : Transaction} {len : Nat} {run : List Byte → State → Verdict} {s : State}
    (hrun : ∀ p u, (run p u).Leads fun v => v.pending = u.pending) :
    ∃ u, (.next (s.transaction t len run) : Host.Outcome State Fault Refusal) = .next u ∧ u.pending = s.pending :=
  ⟨_, rfl, s.transaction_pending t len run hrun⟩

/-! ### The queue under the memory path -/

theorem State.answerMalformed_pending (s t : State) (h : s.answerMalformed = some t) : t.pending = s.pending := by
  unfold State.answerMalformed at h
  split at h
  · cases h
  · split at h <;> cases h
    rfl

theorem State.sendResponse_pending (tag : Tag) (s t : State) (h : s.sendResponse tag = some t) :
    t.pending = s.pending := by
  unfold State.sendResponse at h
  split at h <;> cases h
  rfl

@[simp] theorem State.captureWrite_pending (x : RegionIx) (r : UpRequest) (bytes : List (Byte × Bool)) (s : State) :
    (s.captureWrite x r bytes).pending = s.pending := by
  unfold State.captureWrite
  dsimp only
  split <;> simp

theorem State.applyClass_pending (c : UpClass) (r : UpRequest) (s : State) :
    (s.applyClass c r).1.pending = s.pending := by
  cases c with
  | capture x =>
    simp only [State.applyClass]
    split
    · rfl
    · exact s.captureWrite_pending x r _
  | noSpace x path => exact s.diverge_pending x
  | _ => rfl

theorem State.grantUp_pending (itag : ITag) (s t : State) (h : s.grantUp itag = some t) : t.pending = s.pending := by
  unfold State.grantUp at h
  split at h
  · split at h
    · cases h
    · next r rest _ =>
      have hclass := State.applyClass_pending (s.classify r) r s.popHead
      split at h
      · next heq =>
        rw [heq] at hclass
        split at h <;> cases h
        exact hclass
      · next heq =>
        rw [heq] at hclass
        cases h
        exact hclass
  · cases h

theorem State.grantApl_pending (itag : ITag) (s t : State) (h : s.grantApl itag = some t) :
    t.pending = s.pending := by
  unfold State.grantApl at h
  split at h
  · split at h <;> cases h
    rfl
  · cases h

theorem State.grantSwp_pending (itag : ITag) (s t : State) (h : s.grantSwp itag = some t) :
    t.pending = s.pending := by
  unfold State.grantSwp at h
  split at h
  · split at h <;> cases h
    exact State.appendRecord_pending _ s
  · cases h

theorem State.localFault_pending (st : BusStatus) (s : State) : (s.localFault st).pending = s.pending := by
  cases st <;> rfl

theorem State.upAnswer_pending (tag : Tag) (path : UpPath) (st : BusStatus) (data : List Byte) (s : State) :
    (s.upAnswer tag path st data).pending = s.pending := by
  cases path with
  | captured held => cases held <;> exact s.localFault_pending st
  | _ => rfl

theorem State.upAbandoned_pending (path : UpPath) (st : BusStatus) (s : State) :
    (s.upAbandoned path st).pending = s.pending := by
  cases path with
  | captured held => exact s.localFault_pending st
  | _ => rfl

theorem State.sweepAnswer_pending (q : Seq) (st : BusStatus) (data : List Byte) (s : State) :
    (s.sweepAnswer q st data).pending = s.pending := by
  unfold State.sweepAnswer State.ownReadAnswer State.otherReadAnswer
  dsimp only
  repeat' split
  all_goals simp

theorem State.deliver_pending (e : OutEntry) (st : BusStatus) (data : List Byte) (s : State) :
    (s.deliver e st data).pending = s.pending := by
  unfold State.deliver
  split
  · split
    · exact s.upAbandoned_pending _ st
    · exact s.upAnswer_pending _ _ st data
  · exact s.applyAnswer_pending e.itag st
  · split
    · rfl
    · exact s.sweepAnswer_pending _ st _

theorem State.takeDownstream_pending (itag : ITag) (st : BusStatus) (data : List Byte) (s t : State)
    (h : s.takeDownstream itag st data = some t) : t.pending = s.pending := by
  unfold State.takeDownstream at h
  split at h <;> cases h
  exact State.deliver_pending _ st data _

theorem State.expireStall_pending (s t : State) (h : s.expireStall = some t) : t.pending = s.pending := by
  unfold State.expireStall at h
  split at h
  · cases h
  · split at h
    · cases h
    · dsimp only at h
      split at h <;> cases h
      · rfl
      · exact State.stallActions_pending _ _

theorem State.deadlineExpires_pending (tag : Tag) (s t : State) (h : s.deadlineExpires tag = some t) :
    t.pending = s.pending := by
  unfold State.deadlineExpires at h
  split at h
  · cases h
  · split at h <;> cases h
    exact State.expireHold_pending tag _

/-! ### The queue under this node's turns -/

theorem State.answerOpportunity_pending (u : Turn) (s : State) : (s.answerOpportunity u).pending = s.pending := by
  unfold State.answerOpportunity
  dsimp only
  split
  · split
    · exact s.goDown_pending _
    · exact State.buildData_pending (s.turnMark u) s
  · rfl

theorem State.afterFrame_pending (f : TxFrame) (s : State) : (s.afterFrame f).pending = s.pending := by
  unfold State.afterFrame
  split
  · rfl
  · split <;> rfl
  all_goals rfl

theorem State.completeFrame_pending (s t : State) (h : s.completeFrame = some t) : t.pending = s.pending := by
  unfold State.completeFrame at h
  split at h <;> cases h
  next f _ => exact (State.afterFrame_pending f _).trans (State.finishFrame_pending f _)

theorem State.collide_pending (s t : State) (h : s.collide = some t) : t.pending = s.pending := by
  unfold State.collide at h
  split at h <;> cases h
  split
  · unfold State.backOff
    split <;> rfl
  · exact State.goDown_pending _ _

theorem State.expireGuard_pending (s t : State) (h : s.expireGuard = some t) : t.pending = s.pending := by
  unfold State.expireGuard at h
  split at h
  · cases h
  · split at h <;> cases h
    exact State.enterHold_pending _ _

theorem State.expireDwell_pending (s t : State) (h : s.expireDwell = some t) : t.pending = s.pending := by
  unfold State.expireDwell at h
  split at h
  · cases h
  · split at h <;> cases h
    rfl

theorem State.expireSilence_pending (s t : State) (h : s.expireSilence = some t) : t.pending = s.pending := by
  unfold State.expireSilence at h
  split at h
  · cases h
  · split at h <;> cases h
    split
    · rfl
    · exact State.goDown_pending _ _

/-! ### The queue under the peer's frames -/

theorem State.detectMark_pending (s t : State) (h : s.detectMark = some t) : t.pending = s.pending := by
  unfold State.detectMark at h
  split at h
  · cases h
  · split at h
    · cases h; rfl
    · dsimp only at h
      split at h <;> cases h <;> rfl

theorem State.headerAck_pending (h : Header) (s : State) : (s.headerAck h).pending = s.pending := by
  unfold State.headerAck
  split <;> simp

theorem State.headerTurn_pending (h : Header) (s : State) : (s.headerTurn h).pending = s.pending := by
  unfold State.headerTurn
  split
  · split <;> rfl
  · rfl

theorem State.acksOfHeader_pending (h : Header) (s : State) : (s.acksOfHeader h).pending = s.pending :=
  calc (s.acksOfHeader h).pending
    _ = (((s.confirmSession.headerAck h).holdsAplAck h.aplAck).sweepAplAck h.aplAck).pending :=
        State.headerTurn_pending h _
    _ = (s.confirmSession.headerAck h).pending := State.sweepAplAck_pending _ _
    _ = s.pending := State.headerAck_pending h _

theorem State.actOnHeader_pending (h : Header) (s : State) : (s.actOnHeader h).pending = s.pending := by
  unfold State.actOnHeader
  split
  · split
    · exact s.acksOfHeader_pending h
    · exact s.acksOfHeader_pending h
    · split
      · rfl
      · exact s.goDown_pending _
    · rfl
    · rfl
  · rfl

theorem State.receiveHeader_pending (bytes : List Byte) (s t : State) (h : s.receiveHeader bytes = some t) :
    t.pending = s.pending := by
  unfold State.receiveHeader at h
  split at h
  · split at h <;> cases h
    · exact State.actOnHeader_pending _ _
    · rfl
  · cases h

theorem State.acceptData_pending (h : Header) (body : List Byte) (s : State) :
    (s.acceptData h body).pending = s.pending := by
  unfold State.acceptData
  split
  · rfl
  · split
    · rfl
    · unfold State.acceptInOrder
      dsimp only
      repeat' split
      all_goals rfl

theorem State.applySession_pending (d : Decision) (e : Seq) (s : State) :
    (s.applySession d e).pending = s.pending := by
  cases d with
  | newSession =>
    obtain ⟨-, -, -, -, hpending⟩ := s.sessionNew.blocksNew_rest
    rw [State.applySession_newSession]
    exact hpending
  | resume => simp [State.applySession]

theorem State.helloAtPrimary_pending (t : Training) (h : Header) (b : HelloBody) (s : State) :
    (s.helloAtPrimary t h b).pending = s.pending := by
  unfold State.helloAtPrimary
  split
  · split
    · exact State.applySession_pending _ b.expected (s.recordWindow b.window)
    · rfl
  · rfl
  · exact State.goDown_pending _ _
  · rfl

theorem State.helloAtSecondary_pending (t : Training) (h : Header) (b : HelloBody) (s : State) :
    (s.helloAtSecondary t h b).pending = s.pending := by
  unfold State.helloAtSecondary
  split <;> rfl

theorem State.startAtSecondary_pending (t : Training) (d : Decision) (s : State) :
    (s.startAtSecondary t d).pending = s.pending := by
  unfold State.startAtSecondary
  split
  · exact s.applySession_pending d _
  · rfl

theorem State.trainingFrame_pending (t : Training) (h : Header) (body : List Byte) (s : State) :
    (s.trainingFrame t h body).pending = s.pending := by
  unfold State.trainingFrame
  split
  · split
    · rfl
    · next b _ =>
      split
      · exact s.helloAtPrimary_pending t h b
      · exact s.helloAtPrimary_pending t h b
      · exact s.helloAtSecondary_pending t h b
      · exact s.helloAtSecondary_pending t h b
      · exact s.helloAtSecondary_pending t h b
  · split
    · rfl
    · exact s.startAtSecondary_pending t _
  all_goals rfl

theorem State.restartSilence_pending (s : State) : s.restartSilence.pending = s.pending := by
  rw [s.restartSilence_eq, State.setLink_pending]

theorem State.handover_pending (h : Header) (s : State) : (s.handover h).pending = s.pending := by
  rw [s.handover_eq, State.setLink_pending]

theorem State.endOfFrame_pending (h : Header) (rest : List Byte) (s : State) :
    (s.endOfFrame h rest).pending = s.pending := by
  unfold State.endOfFrame
  split
  · split
    · exact (State.handover_pending h _).trans (s.acceptData_pending h rest)
    · exact s.handover_pending h
    all_goals rfl
  · split
    · exact s.trainingFrame_pending _ h rest
    · rfl
  all_goals rfl

theorem State.receiveEnd_pending (rest : List Byte) (s t : State) (h : s.receiveEnd rest = some t) :
    t.pending = s.pending := by
  have hidle : s.lineReturns.pending = s.pending := State.restartSilence_pending _
  unfold State.receiveEnd at h
  split at h
  · dsimp only at h
    split at h <;> cases h
    · exact hidle
    · exact hidle
    · exact hidle
    · exact (State.endOfFrame_pending _ rest _).trans hidle
  · unfold State.unheardEnd at h
    split at h <;> cases h
    exact State.restartSilence_pending _

/-! ### The queue under the training timers -/

theorem State.expireRetrain_pending (s t : State) (h : s.expireRetrain = some t) : t.pending = s.pending := by
  unfold State.expireRetrain at h
  split at h <;> cases h
  rfl

theorem State.expireHello_pending (s t : State) (h : s.expireHello = some t) : t.pending = s.pending := by
  unfold State.expireHello at h
  split at h
  · cases h
  · split at h <;> cases h
    rfl

theorem State.expireTrainingGuard_pending (phase : Phase) (want : TrainFrame) (s t : State)
    (h : s.expireTrainingGuard phase want = some t) : t.pending = s.pending := by
  unfold State.expireTrainingGuard at h
  split at h
  · cases h
  · split at h
    · cases h
    · split at h <;> cases h
      rfl

theorem State.expireTraining_pending (s t : State) (h : s.expireTraining = some t) : t.pending = s.pending := by
  unfold State.expireTraining at h
  split at h <;> cases h
  exact State.goDown_pending _ _

end Sys2Proof.Machine

namespace Sys2Proof.Machine

/-! ### The queue under the requests of the management port -/

theorem State.regionSet_pending (p : List Byte) (s : State) :
    (s.regionSet p).Leads fun v => v.pending = s.pending := by
  refine withRegion_leads p fun r => ?_
  split
  · trivial
  · split
    · trivial
    · split
      · exact s.setRegion_pending r _
      · trivial

theorem State.enableRegion_pending (r : RegionIx) (s : State) : (s.enableRegion r).pending = s.pending := by
  unfold State.enableRegion
  split
  · rfl
  · dsimp only
    split <;> rfl

theorem State.regionEnable_pending (p : List Byte) (s : State) :
    (s.regionEnable p).Leads fun v => v.pending = s.pending := by
  refine withRegion_leads p fun r => ?_
  split
  · trivial
  · split
    · trivial
    · exact s.enableRegion_pending r

theorem State.regionDisable_pending (p : List Byte) (s : State) :
    (s.regionDisable p).Leads fun v => v.pending = s.pending := by
  refine withRegion_leads p fun r => ?_
  split <;> rfl

theorem State.regionResync_pending (p : List Byte) (s : State) :
    (s.regionResync p).Leads fun v => v.pending = s.pending := by
  refine withRegion_leads p fun r => ?_
  split
  · rfl
  · trivial

theorem State.regionMode_pending (p : List Byte) (s : State) :
    (s.regionMode p).Leads fun v => v.pending = s.pending := by
  refine withRegion_leads p fun r => ?_
  split
  · split
    · trivial
    · exact s.setMode_pending r _
  · trivial

theorem State.linkSet_pending (p : List Byte) (s : State) : (s.linkSet p).Leads fun v => v.pending = s.pending := by
  unfold State.linkSet
  split
  · split
    · trivial
    · split
      · rfl
      · trivial
  · trivial

theorem State.linkEnable_pending (s : State) : s.linkEnable.Leads fun v => v.pending = s.pending := by
  unfold State.linkEnable
  split
  · exact s.enterTraining_pending
  · trivial

theorem State.linkRenew_pending (s : State) : s.linkRenew.pending = s.pending := State.goDown_pending _ _

theorem State.journalSet_pending (p : List Byte) (s : State) :
    (s.journalSet p).Leads fun v => v.pending = s.pending := by
  unfold State.journalSet
  dsimp only
  split
  · exact State.evalMarks_pending _
  · trivial

theorem State.zeroCounter_pending (c : CounterId) (s : State) : (s.zeroCounter c).pending = s.pending := by
  cases c <;> rfl

/-! ### The commands that choose between answers before an event or a request -/

theorem execHostBusReset_answers (s : State) : ∃ t, execHostBusReset s = .next t ∧ t.pending = s.pending := by
  unfold execHostBusReset
  split
  · exact ⟨_, rfl, rfl⟩
  · refine event_answers fun t ht => ?_
    split at ht <;> cases ht
    rfl

theorem execFrameMarkDetected_answers (s : State) :
    ∃ t, execFrameMarkDetected s = .next t ∧ t.pending = s.pending := by
  unfold execFrameMarkDetected
  split
  · exact ⟨_, rfl, s.lineTaken_pending⟩
  · exact event_answers s.detectMark_pending

theorem execFrameEnd_answers (rest : List Byte) (s : State) :
    ∃ t, execFrameEnd rest s = .next t ∧ t.pending = s.pending := by
  unfold execFrameEnd
  split
  · exact ⟨_, rfl, s.lineReleased_pending⟩
  · exact event_answers (s.receiveEnd_pending rest)

theorem execUndefinedRequest_answers (t : Transaction) (s : State) :
    ∃ u, execUndefinedRequest t s = .next u ∧ u.pending = s.pending := by
  unfold execUndefinedRequest
  split
  · exact ⟨s, rfl, rfl⟩
  · split
    · exact ⟨_, rfl, rfl⟩
    · split
      · exact ⟨s, rfl, rfl⟩
      · exact ⟨_, rfl, rfl⟩

theorem execResetRelease_answers (s : State) : ∃ t, execResetRelease s = .next t ∧ t.pending = s.pending := by
  unfold execResetRelease
  split
  · exact ⟨_, rfl, State.settle_pending _⟩
  · exact ⟨s, rfl, rfl⟩

theorem execFrameOpportunity_answers (s : State) :
    ∃ t, execFrameOpportunity s = .next t ∧ t.pending = s.pending := by
  refine event_answers fun t ht => ?_
  split at ht
  · cases ht
  · split at ht <;> cases ht
    exact s.answerOpportunity_pending _

/-! ### Every command -/

/-- Settles O2: each command is an event, a transaction or a change of the reset lines, and none of them writes the
queue. -/
theorem everyCommandAnswersNext : Obligations.EveryCommandAnswersNext := by
  intro c s
  cases c with
  | upstreamRequest r =>
    exact event_answers (s := { s with upi := { s.upi with presented := s.upi.presented ++ [r] } }) fun t ht => by
      cases ht; rfl
  | malformedHead => exact event_answers s.answerMalformed_pending
  | upGrant itag => exact event_answers (s.grantUp_pending itag)
  | aplGrant itag => exact event_answers (s.grantApl_pending itag)
  | swpGrant itag => exact event_answers (s.grantSwp_pending itag)
  | downstreamResponse itag st data => exact event_answers (s.takeDownstream_pending itag st data.toList)
  | upstreamResponse tag => exact event_answers (s.sendResponse_pending tag)
  | stallTimerExpiry => exact event_answers s.expireStall_pending
  | hostBusReset => exact execHostBusReset_answers s
  | hostBusResetRelease =>
    exact event_answers (s := { s with upi := { s.upi with hostReset := false } }) fun t ht => by cases ht; rfl
  | reset => exact ⟨_, rfl, rfl⟩
  | holdDeadlineExpiry tag => exact event_answers (s.deadlineExpires_pending tag)
  | frameOpportunity => exact execFrameOpportunity_answers s
  | frameCompleted => exact event_answers s.completeFrame_pending
  | collision => exact event_answers s.collide_pending
  | guardTimerExpiry => exact event_answers s.expireGuard_pending
  | dwellTimerExpiry => exact event_answers s.expireDwell_pending
  | silenceTimerExpiry => exact event_answers s.expireSilence_pending
  | frameMarkDetected => exact execFrameMarkDetected_answers s
  | headerReceived bytes => exact event_answers (s.receiveHeader_pending bytes)
  | frameEnd rest => exact execFrameEnd_answers rest s
  | retrainTimerExpiry => exact event_answers s.expireRetrain_pending
  | helloTimerExpiry => exact event_answers s.expireHello_pending
  | replyGuardExpiry => exact event_answers (s.expireTrainingGuard_pending _ _)
  | startGuardExpiry => exact event_answers (s.expireTrainingGuard_pending _ _)
  | trainingTimerExpiry => exact event_answers s.expireTraining_pending
  | nop t => exact transaction_answers fun _ _ => rfl
  | portIdent t => exact transaction_answers fun _ _ => rfl
  | regionSet t => exact transaction_answers fun p u => u.regionSet_pending p
  | regionEnable t => exact transaction_answers fun p u => u.regionEnable_pending p
  | regionDisable t => exact transaction_answers fun p u => u.regionDisable_pending p
  | regionResync t => exact transaction_answers fun p u => u.regionResync_pending p
  | regionMode t => exact transaction_answers fun p u => u.regionMode_pending p
  | regionQuery t => exact transaction_answers fun p _ => withRegion_leads p fun _ => rfl
  | linkSet t => exact transaction_answers fun p u => u.linkSet_pending p
  | linkEnable t => exact transaction_answers fun _ u => u.linkEnable_pending
  | linkDisable t => exact transaction_answers fun _ u => u.goDisabled_pending
  | linkRenew t => exact transaction_answers fun _ u => u.linkRenew_pending
  | linkQuery t => exact transaction_answers fun _ _ => rfl
  | journalSet t => exact transaction_answers fun p u => u.journalSet_pending p
  | journalQuery t => exact transaction_answers fun _ _ => rfl
  | eventQuery t => exact transaction_answers fun _ _ => rfl
  | eventAck t => exact transaction_answers fun _ _ => rfl
  | eventEnable t => exact transaction_answers fun _ _ => rfl
  | counterQuery t =>
    refine transaction_answers fun p u => ?_
    split
    · trivial
    · rfl
  | counterZero t =>
    refine transaction_answers fun p u => ?_
    split
    · rfl
    · split
      · trivial
      · exact u.zeroCounter_pending _
  | undefinedRequest t => exact execUndefinedRequest_answers t s
  | resetRelease => exact execResetRelease_answers s

end Sys2Proof.Machine
